-- ==== Sys2Proof/Word.lean ====
section
/-! DEFINITION. The word types of V202DEC and their plainest arithmetic (rules R12, R13).
Every width is the one the spec gives or decides: bytes (R12), `TW = 32` (R33), `TRIM_W = 9` (R38),
4 bits of cursor (R23). `+` and `-` on these types are the spec's `+8`, `-8` and `-T`. -/

namespace Sys2Proof

/-- A byte, 8 bits, bit 0 least significant (R12). -/
abbrev Byte := BitVec 8
/-- A value of `NOW` or `LAST`: `TW = 32` bits (R33, D7). -/
abbrev Tick := BitVec 32
/-- A signed trim output: `TRIM_W = 9` bits two's complement (R38, D19). -/
abbrev Trim := BitVec 9
/-- The channel cursor `CUR`, 4 bits (R23). -/
abbrev Cursor := BitVec 4
/-- One radio payload: exactly 16 bytes, byte 0 first (R26, R90). -/
abbrev Frame := Vector Byte 16
/-- The transmitter id, three bytes (R25). -/
abbrev TxId := Vector Byte 3
/-- The derived hop table, 16 channels (R27). -/
abbrev HopTable := Vector Byte 16
/-- The bind probe table, 8 channels (R28). -/
abbrev ProbeTable := Vector Byte 8
/-- The constant derivation base, 4 rows of 16 channels (R29). -/
abbrev HopBase := Vector (Vector Byte 16) 4

/-- `v[3:0]`, the low nibble of a byte (R12). -/
def lowNibble (v : Byte) : BitVec 4 := v.extractLsb' 0 4

end Sys2Proof
end

