-- ==== Sys2Proof/Config.lean ====
section
/-! DEFINITION. The named parameters of rule R5 that the source gives a value, the OPEN parameters as one
record, and the one free value of the model (log entry 12). -/

namespace Sys2Proof

namespace Config

/-- `FRAME_LEN`: bytes per radio payload (R5, R90). -/
abbrev frameLen : Nat := 16
/-- `N_HOP`: entries in HOP (R5, R27). -/
abbrev nHop : Nat := 16
/-- `N_PROBE`: entries in PROBE (R5, R28). -/
abbrev nProbe : Nat := 8
/-- `N_ROW`: rows of HOP_BASE (R5, R29). -/
abbrev nRow : Nat := 4
/-- `BIND_MARK`: the value of frame byte 14 that marks a bind frame (R5, R214). -/
abbrev bindMark : Byte := 0xC0
/-- `T_PROBE`: NO_BIND probe period threshold, in ticks (R5, R246). -/
abbrev tProbe : Tick := 128
/-- `T_NUDGE`: BOUND first-miss threshold, in ticks (R5, R248). -/
abbrev tNudge : Tick := 10
/-- `T_HUNT`: BOUND steady hunt threshold, in ticks (R5, R248). -/
abbrev tHunt : Tick := 140
/-- `AVOID_SUB`: subtracted when the low nibble is zero (R5, R190). -/
abbrev avoidSub : Byte := 3
/-- `ROW_MASK`: selects the base row from the id sum (R5, R192). -/
abbrev rowMask : Byte := 0x03
/-- `INC_MASK` (R5, R193). -/
abbrev incMask : Byte := 0x1E
/-- `INC_SHIFT` (R5, R193). -/
abbrev incShift : Nat := 2
/-- `TRIM_BIAS`: removed from trim bytes (R5, R218). -/
abbrev trimBias : Int := 0x40

/-- FREE VALUE (log entry 12). What the transport answers to the n-th T_READ that finds the receive FIFO
empty: the spec does not address it (U13), and the block never issues such a read inside a drain (R139). -/
opaque emptyFifoPayload : Nat → Vector (BitVec 8) 16

end Config

/-- The OPEN and switchable parameters of rule R5: an instantiation of the block. They are constants: no
operation writes them (log entry 4). -/
structure Params where
  /-- `HOP_BASE`, OPEN (R29, D22). -/
  hopBase : HopBase
  /-- `PROBE_BASE`, OPEN (R197, D23). -/
  probeBase : Byte
  /-- `PROBE_OFF(i)`, OPEN (R197, D23). -/
  probeOff : Vector Byte 8
  /-- `PROBE_CMP_STRICT`: NO_BIND compares with `>` (true) or `>=` (false) (R5, D9). -/
  probeCmpStrict : Bool
  /-- `DRAIN_MAX`: optional bound on payload reads in one STEP (R139, D12). -/
  drainMax : Option Nat
  deriving DecidableEq, Repr

end Sys2Proof
end

