-- ==== Sys2Proof/Syntax.lean ====
section
/-! DEFINITION. The operations of V202DEC as syntax: one constructor of `Instr` per row of the opcode table
(rule R113), the five formats (rules R90, R113), the fixed sets of names (rules R21, R30, R92), and the
words a port carries. -/

namespace Sys2Proof

/-- The formats of rule R90, and FUNC for the combinational functions that no code selects (R113). -/
inductive Format where
  | hcmd
  | sel
  | tcmd
  | frame
  | func
  deriving DecidableEq, Repr

/-- Bits of a word of the format (R90); FUNC rows have `"encoding": "none"` (R113). -/
def Format.width : Format → Nat
  | .hcmd => 1
  | .sel => 3
  | .tcmd => 11
  | .frame => 128
  | .func => 0

/-- A word presented on a port: its format and its bits as a number, bit 0 least significant (R12). -/
structure OpWord where
  fmt : Format
  bits : Nat
  deriving DecidableEq, Repr

/-- DecoderState (R21). -/
inductive FsmState where
  | noBind
  | waitFirstSynchro
  | bound
  | signalLost
  deriving DecidableEq, Repr

/-- The status codes of a STEP (R30). -/
inductive Status where
  | boundNewValues
  | boundNoValues
  | notBound
  | bindInProgress
  | unknown
  deriving DecidableEq, Repr

/-- The two frame classes (R92). -/
inductive FrameClass where
  | bind
  | data
  deriving DecidableEq, Repr

/-- The operand of ADV (R242): `probe` is n = 8, `hop` is n = 16. -/
inductive AdvTable where
  | probe
  | hop
  deriving DecidableEq, Repr

/-- The fields of format FRAME but MARK (R91). -/
structure FrameBody where
  thrB : Byte
  yawB : Byte
  pitchB : Byte
  rollB : Byte
  trim0B : Byte
  trim1B : Byte
  trim2B : Byte
  id0 : Byte
  id1 : Byte
  id2 : Byte
  /-- Bytes 10 to 13, byte 10 least significant: bits [111:80] of the frame (R91). -/
  rsv : BitVec 32
  csum : Byte
  deriving DecidableEq, Repr

/-- One constructor per row of spec/opcode_table.json, in the table's order. -/
inductive Instr where
  -- format HCMD (R94)
  /-- INIT (R131) -/
  | init
  /-- STEP (R133) -/
  | step
  -- format SEL (R95)
  /-- NB_HUNT (R246) -/
  | nbHunt
  /-- NB_RX (R160) -/
  | nbRx
  /-- WS_IDLE (R167) -/
  | wsIdle
  /-- WS_RX (R169) -/
  | wsRx
  /-- BD_HUNT (R248) -/
  | bdHunt
  /-- BD_RX (R173) -/
  | bdRx
  /-- SL_NOP (R180); the pending bit of its word is a don't-care (R95) -/
  | slNop
  -- format TCMD (R96); `arg` only where it is a channel, ignored and driven 0 elsewhere
  /-- T_CFGRX (R270) -/
  | tCfgrx (ch : Byte)
  /-- T_SETCH (R271) -/
  | tSetch (ch : Byte)
  /-- T_POLL (R272) -/
  | tPoll
  /-- T_CLRF (R273) -/
  | tClrf
  /-- T_EMPTY (R274) -/
  | tEmpty
  /-- T_READ (R275) -/
  | tRead
  /-- T_FLUSHRX (R276) -/
  | tFlushrx
  /-- T_FLUSHTX (R277) -/
  | tFlushtx
  -- format FRAME (R91, R92)
  /-- BIND: a frame whose MARK is 0xC0 -/
  | bind (body : FrameBody)
  /-- DATA: a frame whose MARK is any other value, the flags byte -/
  | data (body : FrameBody) (mark : Byte)
  -- format FUNC: combinational functions, no encoding
  /-- AVOID16 (R190) -/
  | avoid16 (v : Byte)
  /-- DERIVE (R195) -/
  | derive (t0 t1 t2 : Byte)
  /-- PROBEGEN (R197) -/
  | probegen
  /-- CRCCHK (R210) -/
  | crcchk (f : Frame)
  /-- IDMATCH (R212) -/
  | idmatch (f : Frame) (txid : TxId)
  /-- FCLASS (R214) -/
  | fclass (f : Frame)
  /-- STKDEC (R216) -/
  | stkdec (b : Byte)
  /-- TRIMDEC (R218) -/
  | trimdec (b : Byte)
  /-- SDECODE (R219) -/
  | sdecode (f : Frame)
  /-- ELAPSED (R240) -/
  | elapsed (now last : Tick)
  /-- ADV (R242) -/
  | adv (n : AdvTable)
  deriving DecidableEq, Repr

/-- The format an operation's row has in the opcode table (R113). -/
def Instr.format : Instr → Format
  | .init | .step => .hcmd
  | .nbHunt | .nbRx | .wsIdle | .wsRx | .bdHunt | .bdRx | .slNop => .sel
  | .tCfgrx _ | .tSetch _ | .tPoll | .tClrf | .tEmpty | .tRead | .tFlushrx | .tFlushtx => .tcmd
  | .bind _ | .data _ _ => .frame
  | .avoid16 _ | .derive _ _ _ | .probegen | .crcchk _ | .idmatch _ _ | .fclass _ | .stkdec _
  | .trimdec _ | .sdecode _ | .elapsed _ _ | .adv _ => .func

end Sys2Proof
end

