-- ==== Sys2Proof/WellFormed.lean ====
section
/-! DEFINITION. What the types of Syntax and Config do not already rule out. -/

namespace Sys2Proof

/-- A DATA frame's MARK is not 0xC0 (R92: "DATA is every frame that does not match BIND"). Every other
operand of `Instr` ranges over its whole type. -/
def Instr.wf : Instr → Bool
  | .data _ mark => mark != Config.bindMark
  | _ => true

/-- A word has no bit above its format's width (R90). -/
def OpWord.wf (w : OpWord) : Bool := decide (w.bits < 2 ^ w.fmt.width)

/-- The constraint of R6: `HOP_BASE[2][0] = 0x11`. -/
def Params.hopBaseOk (p : Params) : Bool := p.hopBase[2][0] == 0x11

/-- The law of R197: "the offset increases with `i`". -/
def Params.probeOffOk (p : Params) : Bool :=
  decide (∀ i : Fin 7, p.probeOff[i.val] < p.probeOff[i.val + 1])

/-- An instantiation the spec admits (R5, R6, R197). -/
def Params.wf (p : Params) : Bool := p.hopBaseOk && p.probeOffOk

end Sys2Proof
end

