-- ==== Sys2Proof/Decode.lean ====
section
/-! DEFINITION. Decoding and encoding of the port words of rules R90 to R96. Total on every word; a word that
is none of its format is rejected by name. FUNC rows have no encoding (R113), so no word decodes to one. -/

namespace Sys2Proof

/-- Why a word is no operation. -/
inductive DecodeReject where
  /-- A bit above the format's width is set (R90 gives every format one fixed length). -/
  | wordTooWide (fmt : Format)
  /-- "FUNC rows are combinational functions that no code selects" (R113). -/
  | functionHasNoWord
  deriving DecidableEq, Repr

/-- HCMD: INIT = 0, STEP = 1 (R94). -/
def decodeHcmd (v : BitVec 1) : Instr := if v = 0 then .init else .step

/-- SEL = `{STATE[1:0], pending}` selects the step case (R95). -/
def decodeSel (v : BitVec 3) : Instr :=
  match v.toNat with
  | 0 => .nbHunt
  | 1 => .nbRx
  | 2 => .wsIdle
  | 3 => .wsRx
  | 4 => .bdHunt
  | 5 => .bdRx
  | _ => .slNop

/-- TCMD = `{code[2:0], arg[7:0]}` (R96); `arg` is ignored where the command has no channel (R101). -/
def decodeTcmd (v : BitVec 11) : Instr :=
  let arg : Byte := v.extractLsb' 0 8
  match (v.extractLsb' 8 3).toNat with
  | 0 => .tCfgrx arg
  | 1 => .tSetch arg
  | 2 => .tPoll
  | 3 => .tClrf
  | 4 => .tEmpty
  | 5 => .tRead
  | 6 => .tFlushrx
  | _ => .tFlushtx

/-- The fields of a 128-bit frame at their bit positions (R91). -/
def frameBodyOf (v : BitVec 128) : FrameBody where
  thrB := v.extractLsb' 0 8
  yawB := v.extractLsb' 8 8
  pitchB := v.extractLsb' 16 8
  rollB := v.extractLsb' 24 8
  trim0B := v.extractLsb' 32 8
  trim1B := v.extractLsb' 40 8
  trim2B := v.extractLsb' 48 8
  id0 := v.extractLsb' 56 8
  id1 := v.extractLsb' 64 8
  id2 := v.extractLsb' 72 8
  rsv := v.extractLsb' 80 32
  csum := v.extractLsb' 120 8

/-- MARK, bits [119:112] (R91). -/
def frameMark (v : BitVec 128) : Byte := v.extractLsb' 112 8

/-- FRAME: BIND is tested first, DATA is the rest (R92). -/
def decodeFrame (v : BitVec 128) : Instr :=
  if frameMark v = Config.bindMark then .bind (frameBodyOf v) else .data (frameBodyOf v) (frameMark v)

/-- The operation a port word selects, or why it selects none. -/
def decode (w : OpWord) : Except DecodeReject Instr :=
  match w.fmt with
  | .func => .error .functionHasNoWord
  | .hcmd => if w.wf then .ok (decodeHcmd (BitVec.ofNat 1 w.bits)) else .error (.wordTooWide .hcmd)
  | .sel => if w.wf then .ok (decodeSel (BitVec.ofNat 3 w.bits)) else .error (.wordTooWide .sel)
  | .tcmd => if w.wf then .ok (decodeTcmd (BitVec.ofNat 11 w.bits)) else .error (.wordTooWide .tcmd)
  | .frame => if w.wf then .ok (decodeFrame (BitVec.ofNat 128 w.bits)) else .error (.wordTooWide .frame)

/-! ### The encoder, written from the same rules -/

/-- `{code[2:0], arg[7:0]}` (R96). -/
def tcmdWord (code : BitVec 3) (arg : Byte) : BitVec 11 := code ++ arg

/-- The 128 bits of a frame, `CSUM` most significant (R91). -/
def frameWord (b : FrameBody) (mark : Byte) : BitVec 128 :=
  b.csum ++ mark ++ b.rsv ++ b.id2 ++ b.id1 ++ b.id0 ++ b.trim2B ++ b.trim1B ++ b.trim0B ++ b.rollB
    ++ b.pitchB ++ b.yawB ++ b.thrB

/-- The word of an operation; `none` for the FUNC rows (R113). Ignored bits are driven 0 (R95, R96). -/
def encode : Instr → Option OpWord
  | .init => some ⟨.hcmd, 0⟩
  | .step => some ⟨.hcmd, 1⟩
  | .nbHunt => some ⟨.sel, 0b000⟩
  | .nbRx => some ⟨.sel, 0b001⟩
  | .wsIdle => some ⟨.sel, 0b010⟩
  | .wsRx => some ⟨.sel, 0b011⟩
  | .bdHunt => some ⟨.sel, 0b100⟩
  | .bdRx => some ⟨.sel, 0b101⟩
  | .slNop => some ⟨.sel, 0b110⟩
  | .tCfgrx ch => some ⟨.tcmd, (tcmdWord 0 ch).toNat⟩
  | .tSetch ch => some ⟨.tcmd, (tcmdWord 1 ch).toNat⟩
  | .tPoll => some ⟨.tcmd, (tcmdWord 2 0).toNat⟩
  | .tClrf => some ⟨.tcmd, (tcmdWord 3 0).toNat⟩
  | .tEmpty => some ⟨.tcmd, (tcmdWord 4 0).toNat⟩
  | .tRead => some ⟨.tcmd, (tcmdWord 5 0).toNat⟩
  | .tFlushrx => some ⟨.tcmd, (tcmdWord 6 0).toNat⟩
  | .tFlushtx => some ⟨.tcmd, (tcmdWord 7 0).toNat⟩
  | .bind b => some ⟨.frame, (frameWord b Config.bindMark).toNat⟩
  | .data b mark => some ⟨.frame, (frameWord b mark).toNat⟩
  | .avoid16 _ | .derive _ _ _ | .probegen | .crcchk _ | .idmatch _ _ | .fclass _ | .stkdec _
  | .trimdec _ | .sdecode _ | .elapsed _ _ | .adv _ => none

/-! ### Words by their length, as the opcode table numbers them -/

/-- The format of a table row from the number of bits it gives. The table gives HCMD rows 1 bit and SEL rows 3,
both one whole byte, so an 8-bit word 0 or 1 could be of either: it is taken as the host command (log
entry 8). -/
def tableFormat (nbits w : Nat) : Format :=
  if nbits = 128 then .frame
  else if nbits = 11 ∨ nbits = 16 then .tcmd
  else if nbits = 3 then .sel
  else if nbits = 1 then .hcmd
  else if nbits = 8 then (if w < 2 then .hcmd else .sel)
  else .func

/-- The instruction the decoder reads from a table word of `nbits` bits. -/
def decodeTableWord (nbits w : Nat) : Option Instr :=
  match decode ⟨tableFormat nbits w, w⟩ with
  | .ok i => some i
  | .error _ => none

end Sys2Proof
end

