-- ==== Sys2Proof/Machine/Operands.lean ====
section
/-! DEFINITION. Operand assembly: codes of states and statuses (R21, R30), the selector (R95), frame bytes and
the 128-bit frame (R62, R63, R91), the transmitter id (R99), the derivation operands (R100), the signed
encodings (R13). Pure functions. -/

namespace Sys2Proof.Machine

/-- The 2-bit code of a state (R21, D3). -/
def fsmCode : FsmState → BitVec 2
  | .noBind => 0
  | .waitFirstSynchro => 1
  | .bound => 2
  | .signalLost => 3

/-- The 3-bit code of a status (R30, D4). -/
def statusCode : Status → BitVec 3
  | .boundNewValues => 0
  | .boundNoValues => 1
  | .notBound => 2
  | .bindInProgress => 3
  | .unknown => 4

/-- SEL = `{STATE[1:0], pending}` as a port word (R95). -/
def selWord (st : FsmState) (pending : Bool) : OpWord :=
  ⟨.sel, (fsmCode st ++ BitVec.ofBool pending).toNat⟩

/-- `n`, the length of the table ADV goes round (R242). -/
def tableLen : AdvTable → Nat
  | .probe => Config.nProbe
  | .hop => Config.nHop

/-- `(CUR + 1) mod n` (R242). -/
def nextCursor (t : AdvTable) (c : Cursor) : Cursor := BitVec.ofNat 4 ((c.toNat + 1) % tableLen t)

/-- `{TXID[0], TXID[1], TXID[2]} <- FRAME[7], FRAME[8], FRAME[9]` (R99). -/
def frameId (f : Frame) : TxId := #v[f[7], f[8], f[9]]

/-- Byte 14: the marker of a bind frame, the flags byte of a data frame (R62). -/
def markByte (f : Frame) : Byte := f[14]

/-- The frame as one 128-bit vector: byte `i` is bits `[8i+7:8i]` (R63, D27). -/
def frameBits (f : Frame) : BitVec 128 :=
  f[15] ++ f[14] ++ f[13] ++ f[12] ++ f[11] ++ f[10] ++ f[9] ++ f[8] ++ f[7] ++ f[6] ++ f[5] ++ f[4]
    ++ f[3] ++ f[2] ++ f[1] ++ f[0]

/-- The 16 bytes of a frame given by its fields (R91). -/
def frameOf (b : FrameBody) (mark : Byte) : Frame :=
  #v[b.thrB, b.yawB, b.pitchB, b.rollB, b.trim0B, b.trim1B, b.trim2B, b.id0, b.id1, b.id2,
    b.rsv.extractLsb' 0 8, b.rsv.extractLsb' 8 8, b.rsv.extractLsb' 16 8, b.rsv.extractLsb' 24 8, mark, b.csum]

/-- `sum = TXID[0] +8 TXID[1] +8 TXID[2]` (R194). -/
def idSum (t0 t1 t2 : Byte) : Byte := t0 + t1 + t2

/-- `row = sum & 0x03`, 0 to 3 (R192). -/
def idRow (sum : Byte) : Fin 4 := ⟨(sum &&& Config.rowMask).toNat % 4, Nat.mod_lt _ (by decide)⟩

/-- `inc = (sum & 0x1E) >> 2`, 0 to 7 (R193). -/
def idInc (sum : Byte) : Byte := (sum &&& Config.incMask) >>> Config.incShift

/-- `enc_8` (R13). -/
def enc8 (i : Int) : BitVec 8 := BitVec.ofInt 8 i

/-- `enc_9` (R13). -/
def enc9 (i : Int) : Trim := BitVec.ofInt 9 i

end Sys2Proof.Machine
end

