-- ==== Sys2Proof/Machine/HopTables.lean ====
section
/-! DEFINITION. The hop-sequence derivation engine as pure functions (42_hop_derivation.md), and the default
instantiation of the OPEN parameters (R29, R198), which the spec marks as general knowledge (log entry 4). -/

namespace Sys2Proof.Machine

/-- AVOID16, the divisible-by-16 avoidance rule (R190). -/
def avoid16 (v : Byte) : Byte := if lowNibble v ≠ 0 then v else v - Config.avoidSub

/-- DERIVE (R195): entry `i` is `AVOID16(HOP_BASE[row][i] +8 inc)`. -/
def deriveHop (hb : HopBase) (t0 t1 t2 : Byte) : HopTable :=
  let sum := idSum t0 t1 t2
  let row := idRow sum
  let inc := idInc sum
  Vector.ofFn fun i : Fin 16 => avoid16 ((hb[row])[i] + inc)

/-- `DERIVE(TXID)` (R163). -/
def deriveId (hb : HopBase) (t : TxId) : HopTable := deriveHop hb t[0] t[1] t[2]

/-- PROBEGEN (R197): entry `i` is `AVOID16(PROBE_BASE +8 PROBE_OFF(i))`. -/
def probegen (p : Params) : ProbeTable := Vector.ofFn fun i : Fin 8 => avoid16 (p.probeBase + p.probeOff[i])

/-- Default `HOP_BASE` (R29). PRESUMED by the spec itself: "from general knowledge, not in source". -/
def defaultHopBase : HopBase := #v[
  #v[0x27, 0x1B, 0x39, 0x28, 0x24, 0x22, 0x2E, 0x36, 0x19, 0x21, 0x29, 0x14, 0x1E, 0x12, 0x2D, 0x18],
  #v[0x2E, 0x33, 0x25, 0x38, 0x19, 0x12, 0x18, 0x16, 0x2A, 0x1C, 0x1F, 0x37, 0x2F, 0x23, 0x34, 0x10],
  #v[0x11, 0x1A, 0x35, 0x24, 0x28, 0x18, 0x25, 0x2A, 0x32, 0x2C, 0x14, 0x27, 0x36, 0x34, 0x1C, 0x17],
  #v[0x22, 0x27, 0x17, 0x39, 0x34, 0x28, 0x2B, 0x1D, 0x18, 0x2A, 0x21, 0x38, 0x10, 0x26, 0x20, 0x1F]]

/-- The default instantiation (R29, R198, R5). PRESUMED by the spec itself; log entry 4. -/
def defaultParams : Params where
  hopBase := defaultHopBase
  probeBase := 0x18
  probeOff := #v[0, 8, 16, 24, 32, 40, 48, 56]
  probeCmpStrict := true
  drainMax := none

end Sys2Proof.Machine
end

