-- ==== Sys2Proof/Machine/State.lean ====
section
/-! DEFINITION. The state of the machine as plain data: every register of rule R20, the environment state the
block's commands change or observe (R44), the host port (R130) with the queue of commands still to come, and
three fields of the model's own (`trace`, `result`, `freeReads`: log entries 9, 10, 12). -/

namespace Sys2Proof.Machine

/-- The eight stick registers, written together (R34 to R40). -/
structure Sticks where
  /-- `THR` (R34) -/
  thr : Byte
  /-- `YAW` (R35), two's complement -/
  yaw : BitVec 8
  /-- `PITCH` (R36), two's complement -/
  pitch : BitVec 8
  /-- `ROLL` (R37), two's complement -/
  roll : BitVec 8
  /-- `TRIM_YAW` (R38), two's complement -/
  trimYaw : Trim
  /-- `TRIM_PITCH` (R38) -/
  trimPitch : Trim
  /-- `TRIM_ROLL` (R38) -/
  trimRoll : Trim
  /-- `FLAGS` (R39) -/
  flags : Byte
  deriving DecidableEq, Repr

/-- One completed transport command with its answer, as a trace shows it (R70, R96, R130). -/
inductive TxEvent where
  | cfgrx (ch : Byte)
  | setch (ch : Byte)
  | poll (answer : Bool)
  | clrf
  | empty (answer : Bool)
  | read (answer : Frame)
  | flushrx
  | flushtx
  deriving DecidableEq, Repr

/-- The environment state of rule R44, and the two facts rules R270 and R277 add (log entry 16). -/
structure Env where
  /-- `RADIO_CH` (R44) -/
  radioCh : Byte
  /-- the transport is configured and in receive power state (R270, R328, R340) -/
  receiving : Bool
  /-- `RX_PENDING` (R44) -/
  rxPending : Bool
  /-- `RX_FIFO`, oldest first (R44) -/
  rxFifo : List Frame
  /-- the transport's transmit FIFO (R277), payloads of unstated length -/
  txFifo : List (List Byte)
  /-- `NOW` (R44, R320) -/
  now : Tick
  deriving DecidableEq, Repr

/-- What an operation run by itself answers: the result of a FUNC row, the status a step case returns, the
class of a frame (log entry 9). -/
inductive OpResult where
  | none
  | byte (v : Byte)
  | hopTable (t : HopTable)
  | probeTable (t : ProbeTable)
  | bit (b : Bool)
  | frameClass (c : FrameClass)
  | frame (c : FrameClass) (accepted : Bool)
  | signed8 (v : BitVec 8)
  | signed9 (v : Trim)
  | ticks (t : Tick)
  | status (s : Status)
  deriving DecidableEq, Repr

/-- One command still to be presented, with the environment's answers for it: a line of the scenario notation
(R110). `now`, `pend` and `fifo` are free (R279, R320). -/
structure HostLine where
  word : OpWord
  now : Tick
  pend : Bool
  fifo : List Frame
  /-- the command is presented while the previous one has not completed (R306 (b)) -/
  overlap : Bool
  deriving DecidableEq, Repr

/-- The machine. -/
structure State where
  /-- `STATE` (R21) -/
  fsm : FsmState
  /-- `CUR` (R23) -/
  cur : Cursor
  /-- `ERR` (R24) -/
  err : BitVec 8
  /-- `LAST` (R33) -/
  last : Tick
  /-- `STATUS` (R30), the 3-bit code on the host port -/
  status : BitVec 3
  /-- `TXID[0..2]` (R25) -/
  txid : TxId
  /-- `HOP[0..15]` (R27) -/
  hop : HopTable
  /-- `FRAME[0..15]` (R26) -/
  frame : Frame
  /-- `THR` to `FLAGS` (R34 to R39) -/
  sticks : Sticks
  /-- `HOP_BASE` (R29), the generators of `PROBE` (R28, R197), and the switches of R5: constants -/
  params : Params
  /-- INIT has run since power-on (R46, R306 (a)) -/
  initialised : Bool
  /-- `done`: the last command has completed and the outputs are those of it (R130) -/
  done : Bool
  /-- the transport commands of the current or last host command, oldest first (R70, R130) -/
  trace : List TxEvent
  /-- the environment (R44) -/
  env : Env
  /-- the host commands still to come (log entry 6) -/
  inputs : List HostLine
  /-- what the last operation run by itself answered (log entry 9) -/
  result : OpResult
  /-- how many free values were drawn (log entry 12) -/
  freeReads : Nat
  deriving DecidableEq, Repr

/-- `PROBE[0..7]` (R28): the constant `PROBEGEN()`, at all times (C1). -/
def State.probe (s : State) : ProbeTable := probegen s.params

/-- "Faults. The block has none" (R9, R305): no constructor, so no outcome of any step is a fault. Safe: there
is no behaviour the model could stop on by a fault that the spec continues. -/
inductive Fault : Type
  deriving DecidableEq, Repr

/-- Why the model gives a step no meaning. -/
inductive Refusal where
  /-- an operation with no meaning yet; raised only by exec's own arms (none is left). Safe. -/
  | notModelled (mnemonic : String)
  /-- R306 (a): a STEP before the first INIT; raised by execStep. Safe: the spec gives it no meaning. -/
  | stepBeforeInit
  /-- R306 (b): a command presented while a previous one has not completed; raised by fetching. Safe. -/
  | overlappingCommand
  /-- the port word is no word of its format (R90, R113); raised by fetching. Safe. -/
  | undecodable (why : DecodeReject)
  deriving DecidableEq, Repr

/-- A named value for the registers the spec leaves unspecified (log entry 2). DESIGN CHOICE, unsafe. -/
def zeroSticks : Sticks := ⟨0, 0, 0, 0, 0, 0, 0, 0⟩

/-- Right after power-on, before any INIT (R46): the spec gives no register a value; log entry 2 names zero. -/
def State.powerOn : State where
  fsm := .noBind
  cur := 0
  err := 0
  last := 0
  status := statusCode .unknown
  txid := #v[0, 0, 0]
  hop := #v[0, 0, 0, 0, 0, 0, 0, 0, 0, 0, 0, 0, 0, 0, 0, 0]
  frame := #v[0, 0, 0, 0, 0, 0, 0, 0, 0, 0, 0, 0, 0, 0, 0, 0]
  sticks := zeroSticks
  params := defaultParams
  initialised := false
  done := false
  trace := []
  env := ⟨0, false, false, [], [], 0⟩
  inputs := []
  result := .none
  freeReads := 0

/-- Right after reset: power-on followed by INIT with NOW = 0 (R46, R340, R341; log entry 1). -/
def State.reset : State where
  fsm := .noBind
  cur := 0
  err := 0
  last := 0
  status := statusCode .unknown
  txid := #v[0, 0, 0]
  hop := #v[0, 0, 0, 0, 0, 0, 0, 0, 0, 0, 0, 0, 0, 0, 0, 0]
  frame := #v[0, 0, 0, 0, 0, 0, 0, 0, 0, 0, 0, 0, 0, 0, 0, 0]
  sticks := zeroSticks
  params := defaultParams
  initialised := true
  done := true
  trace := [.cfgrx (probegen defaultParams)[0]]
  env := ⟨(probegen defaultParams)[0], true, false, [], [], 0⟩
  inputs := []
  result := .none
  freeReads := 0

end Sys2Proof.Machine
end

