-- ==== Sys2Proof/Machine/Flags.lean ====
section
/-! DEFINITION. The conditions the operations test (R41): checksum, identity, class, acceptance, elapsed time and
the three thresholds; and the stick decodes. The block has no condition-code register (R41); the values that
act as flags are `ERR`, `STATUS`, and the locals `pending` and `got`. Pure functions. -/

namespace Sys2Proof.Machine

/-- The 8-bit sum of bytes 0 to 14 (R210). -/
def checksum (f : Frame) : Byte :=
  f[0] + f[1] + f[2] + f[3] + f[4] + f[5] + f[6] + f[7] + f[8] + f[9] + f[10] + f[11] + f[12] + f[13] + f[14]

/-- CRCCHK (R210). -/
def crcchk (f : Frame) : Bool := checksum f == f[15]

/-- IDMATCH (R212). -/
def idmatch (f : Frame) (t : TxId) : Bool := f[7] == t[0] && f[8] == t[1] && f[9] == t[2]

/-- FCLASS (R214). -/
def fclass (f : Frame) : FrameClass := if markByte f = Config.bindMark then .bind else .data

/-- Which frames a state accepts (R93). -/
def accepts (st : FsmState) (t : TxId) (f : Frame) : Bool :=
  match st with
  | .noBind => crcchk f && fclass f == .bind
  | .waitFirstSynchro => crcchk f
  | .bound => crcchk f && idmatch f t
  | .signalLost => false

/-- ELAPSED (R240): `(now - LAST) mod 2^TW`. -/
def elapsed (now last : Tick) : Tick := now - last

/-- The NO_BIND probe timer (R246, D9): `e > T_PROBE`, or `e >= T_PROBE` when the comparison is not strict. -/
def probeFires (strict : Bool) (e : Tick) : Bool :=
  if strict then decide (Config.tProbe < e) else decide (Config.tProbe ≤ e)

/-- First tier of BD_HUNT (R248): `ERR = 0 and e > T_NUDGE`. -/
def nudgeFires (err : BitVec 8) (e : Tick) : Bool := decide (err = 0) && decide (Config.tNudge < e)

/-- Second tier of BD_HUNT (R248): `ERR >= 1 and e > T_HUNT`. -/
def huntFires (err : BitVec 8) (e : Tick) : Bool := decide (1 ≤ err) && decide (Config.tHunt < e)

/-- STKDEC (R216), an integer in -127 to 127. -/
def stkdec (b : Byte) : Int := if b < 0x80 then -(b.toNat : Int) else (b.toNat : Int) - 0x80

/-- TRIMDEC (R218), an integer in -64 to 191. -/
def trimdec (b : Byte) : Int := (b.toNat : Int) - Config.trimBias

/-- What SDECODE writes (R219). -/
def sticksOf (f : Frame) : Sticks where
  thr := f[0]
  yaw := enc8 (stkdec f[1])
  pitch := enc8 (stkdec f[2])
  roll := enc8 (stkdec f[3])
  trimYaw := enc9 (trimdec f[4])
  trimPitch := enc9 (trimdec f[5])
  trimRoll := enc9 (trimdec f[6])
  flags := f[14]

end Sys2Proof.Machine
end

