-- ==== Sys2Proof/Machine/Ops.lean ====
section
/-! DEFINITION. The operations every meaning is built from: register writes, the eight transport commands with
their effect in the environment (45_transport_commands.md), ADV, CAPTURE, the drain loop, the seven step
cases' shared parts, and fetching the next host command.
There is no trap entry and no return from one: "There is no trap mechanism" (R305). There is no general memory:
"V202DEC has no load or store instructions" (20_memory.md). -/

namespace Sys2Proof.Machine

/-! ### Register writes, one per field -/

def State.setFsm (v : FsmState) (s : State) : State := { s with fsm := v }
def State.setCur (v : Cursor) (s : State) : State := { s with cur := v }
def State.setErr (v : BitVec 8) (s : State) : State := { s with err := v }
def State.setLast (v : Tick) (s : State) : State := { s with last := v }
def State.setStatus (v : Status) (s : State) : State := { s with status := statusCode v }
def State.setTxid (v : TxId) (s : State) : State := { s with txid := v }
def State.setHop (v : HopTable) (s : State) : State := { s with hop := v }
def State.setFrame (v : Frame) (s : State) : State := { s with frame := v }
def State.setSticks (v : Sticks) (s : State) : State := { s with sticks := v }
def State.setInitialised (v : Bool) (s : State) : State := { s with initialised := v }
def State.setDone (v : Bool) (s : State) : State := { s with done := v }
def State.setTrace (v : List TxEvent) (s : State) : State := { s with trace := v }
def State.setEnv (v : Env) (s : State) : State := { s with env := v }
def State.setInputs (v : List HostLine) (s : State) : State := { s with inputs := v }
def State.setResult (v : OpResult) (s : State) : State := { s with result := v }
def State.setFreeReads (v : Nat) (s : State) : State := { s with freeReads := v }

/-- A transport command completed: it joins the trace (R70). -/
def State.issue (e : TxEvent) (s : State) : State := s.setTrace (s.trace ++ [e])

/-! ### Transport commands (R15, R270 to R277) -/

/-- T_CFGRX (R270): `RADIO_CH <- arg`, the transport configured and listening. -/
def txCfgrx (ch : Byte) (s : State) : State :=
  (s.setEnv { s.env with radioCh := ch, receiving := true }).issue (.cfgrx ch)

/-- T_SETCH (R271): `RADIO_CH <- arg`. -/
def txSetch (ch : Byte) (s : State) : State := (s.setEnv { s.env with radioCh := ch }).issue (.setch ch)

/-- T_POLL (R272): answers `RX_PENDING`, changes nothing in the environment. -/
def txPoll (s : State) : Bool × State := (s.env.rxPending, s.issue (.poll s.env.rxPending))

/-- T_CLRF (R273): `RX_PENDING <- 0`. -/
def txClrf (s : State) : State := (s.setEnv { s.env with rxPending := false }).issue .clrf

/-- T_EMPTY (R274): answers whether `RX_FIFO` holds no payload. -/
def txEmpty (s : State) : Bool × State := (s.env.rxFifo.isEmpty, s.issue (.empty s.env.rxFifo.isEmpty))

/-- T_READ (R275): the oldest payload leaves `RX_FIFO` and all 16 bytes of `FRAME` become it. What an empty FIFO
answers is not in the spec (U13): a free value (log entry 12). -/
def txRead (s : State) : State :=
  match s.env.rxFifo with
  | f :: rest => ((s.setEnv { s.env with rxFifo := rest }).setFrame f).issue (.read f)
  | [] =>
    let f := Config.emptyFifoPayload s.freeReads
    ((s.setFreeReads (s.freeReads + 1)).setFrame f).issue (.read f)

/-- T_FLUSHRX (R276): `RX_FIFO` becomes empty. -/
def txFlushrx (s : State) : State := (s.setEnv { s.env with rxFifo := [] }).issue .flushrx

/-- T_FLUSHTX (R277): the transmit FIFO becomes empty. -/
def txFlushtx (s : State) : State := (s.setEnv { s.env with txFifo := [] }).issue .flushtx

/-! ### ADV, SDECODE, CAPTURE -/

/-- `PROBE[CUR]` for n = 8, `HOP[CUR]` for n = 16 (R242). A cursor that has just been advanced modulo 8 is below 8,
so the `% 8` only makes the index total (R64). -/
def channelAt (t : AdvTable) (c : Cursor) (s : State) : Byte :=
  match t with
  | .probe => s.probe[c.toNat % 8]'(Nat.mod_lt _ (by decide))
  | .hop => s.hop[c.toNat]'c.isLt

/-- ADV (R242): one cursor increment with wrap, then one channel switch to the new cursor's entry. -/
def adv (t : AdvTable) (s : State) : State :=
  let c := nextCursor t s.cur
  txSetch (channelAt t c s) (s.setCur c)

/-- SDECODE (R219). -/
def sdecode (f : Frame) (s : State) : State := s.setSticks (sticksOf f)

/-- CAPTURE (R163), in the source's order: id, hop table, cursor, T_SETCH, T_FLUSHRX, timestamp, state. -/
def capture (now : Tick) (s : State) : State :=
  let id := frameId s.frame
  let h := deriveId s.params.hopBase id
  ((txFlushrx (txSetch h[0] (((s.setTxid id).setHop h).setCur 0))).setLast now).setFsm .waitFirstSynchro

/-! ### The drain loop (R139) -/

/-- The locals of a receive case (R16, R41). -/
structure Pass where
  got : Bool
  status : Status
  deriving DecidableEq, Repr

/-- The loop of DRAIN, with `left` reads still allowed by DRAIN_MAX (`none`: no bound). `fuel` bounds the
iterations: one more than the payloads present is enough, since each iteration reads one (R140). -/
def drainLoop (body : Pass → State → Pass × State × Bool) : Nat → Option Nat → Pass → State → Pass × State
  | 0, _, p, s => (p, s)
  | fuel + 1, left, p, s =>
    if left = some 0 then (p, s)
    else
      match txEmpty s with
      | (true, s1) => (p, s1)
      | (false, s1) =>
        match body p (txRead s1) with
        | (p2, s2, true) => (p2, s2)
        | (p2, s2, false) => drainLoop body fuel (left.map (· - 1)) p2 s2

/-- DRAIN(body) (R138, R139): one T_CLRF, then T_EMPTY and T_READ until empty, stopped, or DRAIN_MAX reads. -/
def drain (body : Pass → State → Pass × State × Bool) (p : Pass) (s : State) : Pass × State :=
  drainLoop body (s.env.rxFifo.length + 1) s.params.drainMax p (txClrf s)

/-! ### Per-frame bodies and what follows the drain -/

/-- The body of NB_RX (R160, R161): the first acceptable bind frame is captured and the drain left. -/
def nbBody (now : Tick) (p : Pass) (s : State) : Pass × State × Bool :=
  if crcchk s.frame && fclass s.frame == .bind then (⟨true, .bindInProgress⟩, capture now s, true)
  else (p, s, false)

/-- The body of WS_RX (R169): the checksum alone. -/
def wsBody (p : Pass) (s : State) : Pass × State × Bool :=
  if crcchk s.frame then ({ p with got := true }, s, false) else (p, s, false)

/-- The body of BD_RX (R173, R174). -/
def bdBody (p : Pass) (s : State) : Pass × State × Bool :=
  if crcchk s.frame && idmatch s.frame s.txid then
    if fclass s.frame = .data then (⟨true, .boundNewValues⟩, sdecode s.frame (s.setErr 0), false)
    else ({ p with got := true }, s.setErr 0, false)
  else (p, s, false)

/-- After the drain of WS_RX (R169): timestamp, advance, BOUND. -/
def wsFinish (now : Tick) (p : Pass) (s : State) : State :=
  if p.got then (adv .hop (s.setLast now)).setFsm .bound else s

/-- After the drain of BD_RX (R173): one advance and the timestamp. -/
def bdFinish (now : Tick) (p : Pass) (s : State) : State :=
  if p.got then (adv .hop s).setLast now else s

/-! ### Fetching the next host command (log entry 6) -/

/-- A command is accepted: it leaves the queue, and the environment holds what its line says (R110, R279). -/
def takeLine (l : HostLine) (rest : List HostLine) (s : State) : State :=
  (s.setInputs rest).setEnv { s.env with now := l.now, rxPending := l.pend, rxFifo := l.fifo }

/-- What the host port presents. -/
inductive Fetched where
  /-- no command: "After INIT the block does nothing on its own" (R343) -/
  | idle
  | refuse (r : Refusal)
  | run (i : Instr) (s : State)

/-- The next command (R130), refused where R306 (b) or the decoder says so. -/
def fetch (s : State) : Fetched :=
  match s.inputs with
  | [] => .idle
  | l :: rest =>
    if l.overlap then .refuse .overlappingCommand
    else
      match decode l.word with
      | .error e => .refuse (.undecodable e)
      | .ok i => .run i (takeLine l rest s)

end Sys2Proof.Machine
end

