-- ==== Sys2Proof/Machine/Frames.lean ====
section
/-! DEFINITION. 43_frame_validation.md and the frame classes of 30_encoding.md: the meanings of BIND and DATA
(R92, R93) and of CRCCHK, IDMATCH, FCLASS, STKDEC, TRIMDEC and SDECODE run by themselves. -/

namespace Sys2Proof.Machine

/-- One frame handled by the block in its current state, as a pass over that frame alone: the table of R93. In
SIGNAL_LOST no frame is read (log entry 11). -/
def frameAlone (f : Frame) (s : State) : State :=
  let now := s.env.now
  match s.fsm with
  | .noBind => (nbBody now ⟨false, .notBound⟩ (s.setFrame f)).2.1
  | .waitFirstSynchro =>
    let r := wsBody ⟨false, .bindInProgress⟩ (s.setFrame f)
    wsFinish now r.1 r.2.1
  | .bound =>
    let r := bdBody ⟨false, .boundNoValues⟩ (s.setFrame f)
    bdFinish now r.1 r.2.1
  | .signalLost => s

/-- A frame's meaning by itself: its class (R92), whether the state accepts it and what that does (R93). -/
def frameOp (f : Frame) (s : State) : State :=
  (frameAlone f s).setResult (.frame (fclass f) (accepts s.fsm s.txid f))

/-- BIND (R92, R93). -/
def execBind (b : FrameBody) (s : State) : Host.Outcome State Fault Refusal :=
  .next (frameOp (frameOf b Config.bindMark) s)

/-- DATA (R92, R93). -/
def execData (b : FrameBody) (mark : Byte) (s : State) : Host.Outcome State Fault Refusal :=
  .next (frameOp (frameOf b mark) s)

/-- CRCCHK (R210). -/
def execCrcchk (f : Frame) (s : State) : Host.Outcome State Fault Refusal := .next (s.setResult (.bit (crcchk f)))

/-- IDMATCH (R212). -/
def execIdmatch (f : Frame) (t : TxId) (s : State) : Host.Outcome State Fault Refusal :=
  .next (s.setResult (.bit (idmatch f t)))

/-- FCLASS (R214). -/
def execFclass (f : Frame) (s : State) : Host.Outcome State Fault Refusal :=
  .next (s.setResult (.frameClass (fclass f)))

/-- STKDEC (R216), held in 8 bits two's complement. -/
def execStkdec (b : Byte) (s : State) : Host.Outcome State Fault Refusal :=
  .next (s.setResult (.signed8 (enc8 (stkdec b))))

/-- TRIMDEC (R218), held in 9 bits two's complement. -/
def execTrimdec (b : Byte) (s : State) : Host.Outcome State Fault Refusal :=
  .next (s.setResult (.signed9 (enc9 (trimdec b))))

/-- SDECODE (R219): writes the eight stick registers. -/
def execSdecode (f : Frame) (s : State) : Host.Outcome State Fault Refusal := .next (sdecode f s)

end Sys2Proof.Machine
end

