-- ==== Sys2Proof/Machine/Hop.lean ====
section
/-! DEFINITION. 42_hop_derivation.md: the meanings of AVOID16, DERIVE and PROBEGEN run by themselves. They "write
nothing but their result", which goes to `result` (log entry 9). -/

namespace Sys2Proof.Machine

/-- AVOID16 (R190). -/
def execAvoid16 (v : Byte) (s : State) : Host.Outcome State Fault Refusal := .next (s.setResult (.byte (avoid16 v)))

/-- DERIVE (R195), with the constant `HOP_BASE`. -/
def execDerive (t0 t1 t2 : Byte) (s : State) : Host.Outcome State Fault Refusal :=
  .next (s.setResult (.hopTable (deriveHop s.params.hopBase t0 t1 t2)))

/-- PROBEGEN (R197), with the parameters `PROBE_BASE` and `PROBE_OFF`. -/
def execProbegen (s : State) : Host.Outcome State Fault Refusal :=
  .next (s.setResult (.probeTable (probegen s.params)))

end Sys2Proof.Machine
end

