-- ==== Sys2Proof/Machine/Hunt.lean ====
section
/-! DEFINITION. 44_channel_hunt.md: the step cases NB_HUNT and BD_HUNT, and the meanings of NB_HUNT, BD_HUNT,
ELAPSED and ADV run by themselves. A step case answers the status it returns. -/

namespace Sys2Proof.Machine

/-- NB_HUNT (R246). -/
def nbHunt (now : Tick) (s : State) : Status × State :=
  (.notBound,
    if probeFires s.params.probeCmpStrict (elapsed now s.last) then (adv .probe s).setLast now else s)

/-- BD_HUNT (R248, R249): both tiers are tested on `ERR` and `e` as they were at entry. -/
def bdHunt (now : Tick) (s : State) : Status × State :=
  let e := elapsed now s.last
  (.boundNoValues,
    if nudgeFires s.err e then adv .hop ((s.setErr (s.err + 1)).setLast now)
    else if huntFires s.err e then (adv .hop s).setLast now
    else s)

/-- What a step case run by itself answers: its status goes to `result`, not to `STATUS` (R42, log entry 9). -/
def caseAlone (r : Status × State) : Host.Outcome State Fault Refusal := .next (r.2.setResult (.status r.1))

/-- NB_HUNT by itself (R246). -/
def execNbHunt (s : State) : Host.Outcome State Fault Refusal := caseAlone (nbHunt s.env.now s)

/-- BD_HUNT by itself (R248). -/
def execBdHunt (s : State) : Host.Outcome State Fault Refusal := caseAlone (bdHunt s.env.now s)

/-- ELAPSED (R240). -/
def execElapsed (now last : Tick) (s : State) : Host.Outcome State Fault Refusal :=
  .next (s.setResult (.ticks (elapsed now last)))

/-- ADV (R242): writes `CUR` and issues T_SETCH. -/
def execAdv (n : AdvTable) (s : State) : Host.Outcome State Fault Refusal := .next (adv n s)

end Sys2Proof.Machine
end

