-- ==== Sys2Proof/Machine/Receive.lean ====
section
/-! DEFINITION. 41_step_receive.md: the step cases NB_RX, WS_IDLE, WS_RX, BD_RX and SL_NOP, and their meanings run
by themselves. -/

namespace Sys2Proof.Machine

/-- NB_RX (R160). -/
def nbRx (now : Tick) (s : State) : Status × State :=
  let r := drain (nbBody now) ⟨false, .notBound⟩ s
  (r.1.status, r.2)

/-- WS_IDLE (R167). -/
def wsIdle (s : State) : Status × State := (.bindInProgress, s)

/-- WS_RX (R169). -/
def wsRx (now : Tick) (s : State) : Status × State :=
  let r := drain wsBody ⟨false, .bindInProgress⟩ s
  (.bindInProgress, wsFinish now r.1 r.2)

/-- BD_RX (R173). -/
def bdRx (now : Tick) (s : State) : Status × State :=
  let r := drain bdBody ⟨false, .boundNoValues⟩ s
  (r.1.status, bdFinish now r.1 r.2)

/-- SL_NOP (R180). -/
def slNop (s : State) : Status × State := (.bindInProgress, s)

/-- NB_RX by itself. -/
def execNbRx (s : State) : Host.Outcome State Fault Refusal := caseAlone (nbRx s.env.now s)

/-- WS_IDLE by itself. -/
def execWsIdle (s : State) : Host.Outcome State Fault Refusal := caseAlone (wsIdle s)

/-- WS_RX by itself. -/
def execWsRx (s : State) : Host.Outcome State Fault Refusal := caseAlone (wsRx s.env.now s)

/-- BD_RX by itself. -/
def execBdRx (s : State) : Host.Outcome State Fault Refusal := caseAlone (bdRx s.env.now s)

/-- SL_NOP by itself. -/
def execSlNop (s : State) : Host.Outcome State Fault Refusal := caseAlone (slNop s)

end Sys2Proof.Machine
end

