-- ==== Sys2Proof/Machine/HostOps.lean ====
section
/-! DEFINITION. 40_host_ops_and_dispatch.md: the host commands INIT and STEP, and the dispatch of STEP. -/

namespace Sys2Proof.Machine

/-- INIT (R131), in the order of its statements. -/
def initOp (s : State) : State :=
  let now := s.env.now
  let s1 := ((((s.setTrace []).setFsm .noBind).setCur 0).setErr 0).setStatus .unknown
  (((txCfgrx s.probe[0] s1).setLast now).setInitialised true).setDone true

/-- The step case `{STATE, pending}` selects (R95, R137). -/
def stepCase (st : FsmState) (pending : Bool) (now : Tick) (s : State) : Status × State :=
  match st, pending with
  | .noBind, false => nbHunt now s
  | .noBind, true => nbRx now s
  | .waitFirstSynchro, false => wsIdle s
  | .waitFirstSynchro, true => wsRx now s
  | .bound, false => bdHunt now s
  | .bound, true => bdRx now s
  | .signalLost, _ => slNop s

/-- STEP's dispatch (R133): no poll in SIGNAL_LOST, else one T_POLL whose answer selects the case (R135). -/
def dispatch (now : Tick) (s : State) : Status × State :=
  match s.fsm with
  | .signalLost => stepCase .signalLost false now s
  | st => stepCase st (txPoll s).1 now (txPoll s).2

/-- STEP (R133) from an initialised state: NOW sampled once and first (R134), one case, STATUS written last. -/
def stepOp (s : State) : State :=
  let r := dispatch s.env.now (s.setTrace [])
  (r.2.setStatus r.1).setDone true

/-- INIT (R131); accepted at any time (R132). -/
def execInit (s : State) : Host.Outcome State Fault Refusal := .next (initOp s)

/-- STEP (R133); before the first INIT it has no meaning (R306 (a)). -/
def execStep (s : State) : Host.Outcome State Fault Refusal :=
  if s.initialised then .next (stepOp s) else .refused .stepBeforeInit

end Sys2Proof.Machine
end

