-- ==== Sys2Proof/Machine/Transport.lean ====
section
/-! DEFINITION. 45_transport_commands.md: the eight transport commands, each issued by itself. The answer of a
command stands in the trace (R96, R110). -/

namespace Sys2Proof.Machine

/-- T_CFGRX (R270). -/
def execTCfgrx (ch : Byte) (s : State) : Host.Outcome State Fault Refusal := .next (txCfgrx ch s)

/-- T_SETCH (R271). -/
def execTSetch (ch : Byte) (s : State) : Host.Outcome State Fault Refusal := .next (txSetch ch s)

/-- T_POLL (R272). -/
def execTPoll (s : State) : Host.Outcome State Fault Refusal := .next (txPoll s).2

/-- T_CLRF (R273). -/
def execTClrf (s : State) : Host.Outcome State Fault Refusal := .next (txClrf s)

/-- T_EMPTY (R274). -/
def execTEmpty (s : State) : Host.Outcome State Fault Refusal := .next (txEmpty s).2

/-- T_READ (R275). -/
def execTRead (s : State) : Host.Outcome State Fault Refusal := .next (txRead s)

/-- T_FLUSHRX (R276). -/
def execTFlushrx (s : State) : Host.Outcome State Fault Refusal := .next (txFlushrx s)

/-- T_FLUSHTX (R277); no rule of the block issues it (D29). -/
def execTFlushtx (s : State) : Host.Outcome State Fault Refusal := .next (txFlushtx s)

end Sys2Proof.Machine
end

