-- ==== Sys2Proof/Machine/Dispatch.lean ====
section
/-! DEFINITION. One arm per constructor of Instr, one direct call of its meaning. -/

namespace Sys2Proof.Machine

def exec (i : Instr) (s : State) : Host.Outcome State Fault Refusal :=
  match i with
  -- HCMD
  | .init => Sys2Proof.Machine.execInit s
  | .step => Sys2Proof.Machine.execStep s
  -- SEL
  | .nbHunt => Sys2Proof.Machine.execNbHunt s
  | .nbRx => Sys2Proof.Machine.execNbRx s
  | .wsIdle => Sys2Proof.Machine.execWsIdle s
  | .wsRx => Sys2Proof.Machine.execWsRx s
  | .bdHunt => Sys2Proof.Machine.execBdHunt s
  | .bdRx => Sys2Proof.Machine.execBdRx s
  | .slNop => Sys2Proof.Machine.execSlNop s
  -- TCMD
  | .tCfgrx ch => Sys2Proof.Machine.execTCfgrx ch s
  | .tSetch ch => Sys2Proof.Machine.execTSetch ch s
  | .tPoll => Sys2Proof.Machine.execTPoll s
  | .tClrf => Sys2Proof.Machine.execTClrf s
  | .tEmpty => Sys2Proof.Machine.execTEmpty s
  | .tRead => Sys2Proof.Machine.execTRead s
  | .tFlushrx => Sys2Proof.Machine.execTFlushrx s
  | .tFlushtx => Sys2Proof.Machine.execTFlushtx s
  -- FRAME
  | .bind body => Sys2Proof.Machine.execBind body s
  | .data body mark => Sys2Proof.Machine.execData body mark s
  -- FUNC
  | .avoid16 v => Sys2Proof.Machine.execAvoid16 v s
  | .derive t0 t1 t2 => Sys2Proof.Machine.execDerive t0 t1 t2 s
  | .probegen => Sys2Proof.Machine.execProbegen s
  | .crcchk f => Sys2Proof.Machine.execCrcchk f s
  | .idmatch f txid => Sys2Proof.Machine.execIdmatch f txid s
  | .fclass f => Sys2Proof.Machine.execFclass f s
  | .stkdec b => Sys2Proof.Machine.execStkdec b s
  | .trimdec b => Sys2Proof.Machine.execTrimdec b s
  | .sdecode f => Sys2Proof.Machine.execSdecode f s
  | .elapsed now last => Sys2Proof.Machine.execElapsed now last s
  | .adv n => Sys2Proof.Machine.execAdv n s

end Sys2Proof.Machine
end

