-- ==== Sys2Proof/Machine/Step.lean ====
section
/-! DEFINITION. One step of the machine: the next host command of the queue, whole (D1: "one accepted host command is
one atomic transition"). -/

namespace Sys2Proof.Machine

/-- One step. With no command waiting the block does nothing (R343). -/
def step (s : State) : Host.Outcome State Fault Refusal :=
  match fetch s with
  | .idle => .next s
  | .refuse r => .refused r
  | .run i s' => exec i s'

/-- The word `w` of a table row of `nbits` bits presented at the head of the queue, with NOW, the pending flag and
the FIFO as the environment holds them (log entries 7 and 8). -/
def State.withFetchWord (s : State) (nbits w : Nat) : State :=
  { s with inputs := ⟨⟨tableFormat nbits w, w⟩, s.env.now, s.env.rxPending, s.env.rxFifo, false⟩ :: s.inputs }

end Sys2Proof.Machine
end

