-- ==== Sys2Proof/Safety.lean ====
section
/-! DEFINITION. What counts as a safe run of V202DEC, in the terms the statements use: the invariants of rule R45, a
machine driven by the host alone (R310), what a drain pass reads and shows, and counting in a trace. -/

namespace Sys2Proof.Machine

/-- No entry is a multiple of 16 (R27, R191). -/
abbrev NibblesNonzero {n : Nat} (t : Vector Byte n) : Prop := ∀ i : Fin n, t[i].toNat % 16 ≠ 0

/-- The invariants of rule R45, (a) to (g). -/
structure Inv (s : State) : Prop where
  /-- (a) -/
  probing : s.fsm = .noBind → s.cur ≤ 7 ∧ s.env.radioCh = s.probe[s.cur.toNat % 8]'(Nat.mod_lt _ (by decide))
  /-- (b) -/
  waiting : s.fsm = .waitFirstSynchro → s.cur = 0 ∧ s.env.radioCh = s.hop[0]
  /-- (c) -/
  hopping : s.fsm = .bound → s.env.radioCh = s.hop[s.cur.toNat]'s.cur.isLt
  /-- (d) -/
  errTier : s.err = 0 ∨ s.err = 1
  /-- (d) -/
  errZero : s.fsm = .noBind ∨ s.fsm = .waitFirstSynchro → s.err = 0
  /-- (e) -/
  derived : s.fsm = .waitFirstSynchro ∨ s.fsm = .bound → s.hop = deriveId s.params.hopBase s.txid
  /-- (f) -/
  probeNibbles : NibblesNonzero s.probe
  /-- (f) -/
  hopNibbles : s.fsm = .waitFirstSynchro ∨ s.fsm = .bound → NibblesNonzero s.hop
  /-- (g) -/
  reachable : s.fsm ≠ .signalLost

/-- Every command still to come is a host command, INIT or STEP (R310: "The host can start INIT and STEP"). -/
abbrev HostDriven (s : State) : Prop := ∀ l ∈ s.inputs, l.word.fmt = .hcmd

/-! ### A drain pass that nothing stops early -/

/-- The payloads one pass may read: all of the FIFO, or DRAIN_MAX of them (R139). -/
def readable (s : State) : List Frame :=
  match s.params.drainMax with
  | none => s.env.rxFifo
  | some k => s.env.rxFifo.take k

/-- The pass ends because DRAIN_MAX reads were made, not because the FIFO reported empty (R139). -/
def limitHit (s : State) : Bool :=
  match s.params.drainMax with
  | none => false
  | some k => decide (k ≤ s.env.rxFifo.length)

/-- The commands of one iteration that reads `f`: T_EMPTY(0), T_READ (R139). -/
def readEvents (f : Frame) : List TxEvent := [.empty false, .read f]

/-- How a pass ends: with T_EMPTY(1), unless the bound ended it. -/
def closing : Bool → List TxEvent
  | true => []
  | false => [.empty true]

/-- The commands of a pass that nothing stops early: T_CLRF, the reads, the end. -/
def passTrace (s : State) : List TxEvent := .clrf :: ((readable s).flatMap readEvents ++ closing (limitHit s))

/-- The state after such a pass when no frame had any effect of its own (R301): the flag cleared, the payloads
removed, the last of them in `FRAME`, the commands in the trace. -/
def afterPass (s : State) : State :=
  { s with
    frame := (readable s).getLastD s.frame
    env := { s.env with rxPending := false, rxFifo := s.env.rxFifo.drop (readable s).length }
    trace := s.trace ++ passTrace s }

/-- The frames of the pass that BOUND accepts (R93, R174). -/
def boundAccepted (s : State) : List Frame := (readable s).filter fun f => crcchk f && idmatch f s.txid

/-- Those of them that are of class DATA (R173). -/
def boundData (s : State) : List Frame := (boundAccepted s).filter fun f => fclass f == .data

/-- A frame NO_BIND captures (R161). -/
def bindable (f : Frame) : Bool := crcchk f && fclass f == .bind

/-! ### Counting in a trace -/

def isPoll : TxEvent → Bool
  | .poll _ => true
  | _ => false

def isEmptyNo : TxEvent → Bool
  | .empty false => true
  | _ => false

def isRead : TxEvent → Bool
  | .read _ => true
  | _ => false

def isSetch : TxEvent → Bool
  | .setch _ => true
  | _ => false

def isCfgrx : TxEvent → Bool
  | .cfgrx _ => true
  | _ => false

/-- The channel a command carries (R270, R271). -/
def eventChannel : TxEvent → Option Byte
  | .cfgrx ch => some ch
  | .setch ch => some ch
  | _ => none

end Sys2Proof.Machine
end

