-- ==== Sys2Proof/Certificates/Slice0/Obligations.lean ====
section
/-! DEFINITION. The statements for the provers. Sizes are written with numbers (`toNat`, `toInt`), so that a statement
repeats the spec's arithmetic and not the model's. `s.env.now` is the `now` of the operation (R134). -/

open Sys2Proof Sys2Proof.Machine

/-! ### Encoding -/

/-- Decoding the word of a well-formed operation gives the operation back, with every operand at every value: no bit of
an encoding of R91, R94, R95 or R96 is dropped. -/
def Obligations.OperationWordsRoundTrip : Prop :=
  ∀ (i : Instr) (w : OpWord), i.wf = true → encode i = some w → decode w = .ok i

/-- R95 "All eight values select a case; none is illegal", and the same of the other formats (R101): every word within
its format's width selects a well-formed operation of that format. That a word wider than its format (`.wordTooWide`)
and a FUNC word (`.functionHasNoWord`) are rejected, each by its name, is the model's choice (log entry 20, DEDUCED),
no rule of the spec. -/
def Obligations.EveryPortWordSelectsOneOperation : Prop :=
  (∀ (fmt : Format) (bits : Nat), fmt ≠ .func → bits < 2 ^ fmt.width →
      ∃ i : Instr, decode ⟨fmt, bits⟩ = .ok i ∧ i.format = fmt ∧ i.wf = true) ∧
  (∀ (fmt : Format) (bits : Nat), fmt ≠ .func → ¬ bits < 2 ^ fmt.width →
      decode ⟨fmt, bits⟩ = .error (.wordTooWide fmt)) ∧
  (∀ bits : Nat, decode ⟨.func, bits⟩ = .error .functionHasNoWord)

/-- R92: BIND is `frame & mask = match` on the 128-bit vector, DATA is every other frame; of a frame as bytes and of a
port word alike. -/
def Obligations.FrameClassIsMaskAndMatch : Prop :=
  (∀ f : Frame, fclass f = .bind ↔
      frameBits f &&& 0x00FF0000000000000000000000000000#128 = 0x00C00000000000000000000000000000#128) ∧
  (∀ v : BitVec 128, v &&& 0x00FF0000000000000000000000000000#128 = 0x00C00000000000000000000000000000#128 →
      decode ⟨.frame, v.toNat⟩ = .ok (.bind (frameBodyOf v))) ∧
  (∀ v : BitVec 128, v &&& 0x00FF0000000000000000000000000000#128 ≠ 0x00C00000000000000000000000000000#128 →
      decode ⟨.frame, v.toNat⟩ = .ok (.data (frameBodyOf v) (frameMark v)))

/-- R63, R91: byte `i` of a frame is bits `[8i+7:8i]` of its 128-bit vector, and the frame assembled from the fields of
a vector is that vector. -/
def Obligations.FrameByteIsItsEightBits : Prop :=
  (∀ (f : Frame) (i : Fin 16), (frameBits f).extractLsb' (8 * i.val) 8 = f[i]) ∧
  (∀ v : BitVec 128, frameBits (frameOf (frameBodyOf v) (frameMark v)) = v)

/-- Some words written out from R94, R95, R96 and the vectors of 95_test_vectors.md sections 2.5 and 2.17 decode to the
operations they stand for. -/
def Obligations.SampleWordsDecode : Prop :=
  decode ⟨.hcmd, 0b0⟩ = .ok .init ∧ decode ⟨.hcmd, 0b1⟩ = .ok .step ∧
  decode ⟨.sel, 0b101⟩ = .ok .bdRx ∧ decode ⟨.sel, 0b110⟩ = .ok .slNop ∧ decode ⟨.sel, 0b111⟩ = .ok .slNop ∧
  decode ⟨.tcmd, 0x018⟩ = .ok (.tCfgrx 0x18) ∧ decode ⟨.tcmd, 0x14D⟩ = .ok (.tSetch 0x4D) ∧
  decode ⟨.tcmd, 0x700⟩ = .ok .tFlushtx ∧
  decode ⟨.frame, 0x86C00000000003020140404000000000⟩ =
    .ok (.bind ⟨0, 0, 0, 0, 0x40, 0x40, 0x40, 1, 2, 3, 0, 0x86⟩)

/-! ### The derivation engine -/

/-- R190: AVOID16 keeps a byte whose low nibble is not zero, and else answers `(v - 3) mod 256`; it writes nothing but
its result (into `result`, log entry 9). -/
def Obligations.AvoidSixteenResult : Prop :=
  ∀ (v : Byte) (s : State), exec (.avoid16 v) s = .next { s with
    result := .byte (if v.toNat % 16 ≠ 0 then v else BitVec.ofNat 8 (v.toNat + 253)) }

/-- R191: for every byte, every `HOP_BASE` and id, and every probe parameter, no entry produced is a multiple of 16. -/
def Obligations.NoDerivedChannelIsMultipleOfSixteen : Prop :=
  (∀ v : Byte, (avoid16 v).toNat % 16 ≠ 0) ∧
  (∀ (hb : HopBase) (t0 t1 t2 : Byte), NibblesNonzero (deriveHop hb t0 t1 t2)) ∧
  (∀ p : Params, NibblesNonzero (probegen p))

/-- R195 (with R192, R193, R194): entry `i` of DERIVE is AVOID16 of `HOP_BASE[sum mod 4][i] + (sum div 4) mod 8`, byte
wrapped, for whatever table `HOP_BASE` is; DERIVE writes nothing but its result (into `result`, log entry 9). -/
def Obligations.DeriveResult : Prop :=
  ∀ (t0 t1 t2 : Byte) (s : State), ∃ h : HopTable,
    exec (.derive t0 t1 t2) s = .next { s with result := .hopTable h } ∧
    ∀ i : Fin 16, ∀ sum cand : Nat, sum = (t0.toNat + t1.toNat + t2.toNat) % 256 →
      cand = ((s.params.hopBase[sum % 4]'(Nat.mod_lt _ (by decide)))[i].toNat + sum / 4 % 8) % 256 →
      h[i].toNat = if cand % 16 ≠ 0 then cand else (cand + 253) % 256

/-- R196 (b): DERIVE depends on the id only through the low five bits of the sum. -/
def Obligations.DeriveDependsOnFiveSumBits : Prop :=
  ∀ (hb : HopBase) (t0 t1 t2 u0 u1 u2 : Byte),
    (t0.toNat + t1.toNat + t2.toNat) % 32 = (u0.toNat + u1.toNat + u2.toNat) % 32 →
    deriveHop hb t0 t1 t2 = deriveHop hb u0 u1 u2

/-- The source's own example (95_test_vectors.md S5), for every table that meets R6. -/
def Obligations.SourceIdFirstChannel : Prop :=
  ∀ p : Params, p.hopBaseOk = true → (deriveHop p.hopBase 0x01 0x02 0x03)[0] = 0x12

/-- R197: entry `i` of PROBEGEN is AVOID16 of `PROBE_BASE + PROBE_OFF(i)`, byte wrapped, for whatever parameters
(into `result`, log entry 9). -/
def Obligations.ProbegenResult : Prop :=
  ∀ s : State, ∃ t : ProbeTable, exec .probegen s = .next { s with result := .probeTable t } ∧ t = s.probe ∧
    ∀ i : Fin 8, ∀ cand : Nat, cand = (s.params.probeBase.toNat + s.params.probeOff[i].toNat) % 256 →
      t[i].toNat = if cand % 16 ≠ 0 then cand else (cand + 253) % 256

/-! ### Frame validation and stick decode -/

/-- R210: CRCCHK answers whether the sum of bytes 0 to 14, modulo 256, is byte 15 (into `result`, log entry
9). -/
def Obligations.ChecksumResult : Prop :=
  ∀ (f : Frame) (s : State), exec (.crcchk f) s = .next { s with
    result := .bit (decide (((f.toList.take 15).map BitVec.toNat).sum % 256 = f[15].toNat)) }

/-- R211: the checksum detects every change of one byte; it misses every change of bytes 0 to 14 that preserves their sum,
a swap of two of them among these; of the 256 values of byte 15 exactly one passes. -/
def Obligations.ChecksumDetectsOneByteNotSwaps : Prop :=
  (∀ (f : Frame) (i : Fin 16) (v : Byte), crcchk f = true → v ≠ f[i] → crcchk (f.set i v) = false) ∧
  (∀ f g : Frame, f[15] = g[15] →
    ((f.toList.take 15).map BitVec.toNat).sum % 256 = ((g.toList.take 15).map BitVec.toNat).sum % 256 →
    crcchk f = crcchk g) ∧
  (∀ (f : Frame) (i j : Fin 16), i.val < 15 → j.val < 15 → crcchk ((f.set i f[j]).set j f[i]) = crcchk f) ∧
  (∀ f : Frame, ∃ v : Byte, crcchk (f.set 15 v) = true ∧ ∀ w : Byte, crcchk (f.set 15 w) = true → w = v)

/-- R212 and R214: IDMATCH compares all of bytes 7, 8, 9 with the id in order; FCLASS compares the whole of byte 14 with
0xC0 (into `result`, log entry 9). -/
def Obligations.IdentityAndClassResults : Prop :=
  (∀ (f : Frame) (t : TxId) (s : State), exec (.idmatch f t) s = .next { s with
    result := .bit (decide (f[7] = t[0] ∧ f[8] = t[1] ∧ f[9] = t[2])) }) ∧
  (∀ (f : Frame) (s : State), exec (.fclass f) s = .next { s with
    result := .frameClass (if f[14].toNat = 192 then .bind else .data) })

/-- R216: STKDEC answers, in 8 bits two's complement, `-b` below 0x80 and `b - 0x80` from there on; the value lies in
-127 to 127 (into `result`, log entry 9). -/
def Obligations.StickDecodeResult : Prop :=
  ∀ (b : Byte) (s : State), ∃ r : BitVec 8, exec (.stkdec b) s = .next { s with result := .signed8 r } ∧
    r.toInt = (if b.toNat < 128 then -(b.toNat : Int) else (b.toNat : Int) - 128) ∧
    -127 ≤ r.toInt ∧ r.toInt ≤ 127

/-- R218: TRIMDEC answers, in 9 bits two's complement, `b - 0x40` with no wrap; the value lies in -64 to 191 (into `result`,
log entry 9). -/
def Obligations.TrimDecodeResult : Prop :=
  ∀ (b : Byte) (s : State), ∃ r : Trim, exec (.trimdec b) s = .next { s with result := .signed9 r } ∧
    r.toInt = (b.toNat : Int) - 64 ∧ -64 ≤ r.toInt ∧ r.toInt ≤ 191

/-- R219: SDECODE writes the eight stick registers from bytes 0 to 6 and 14 of one frame, and no other register. -/
def Obligations.StickRegistersFromOneFrame : Prop :=
  ∀ (f : Frame) (s : State), ∃ k : Sticks, exec (.sdecode f) s = .next { s with sticks := k } ∧
    k.thr = f[0] ∧
    k.yaw.toInt = (if f[1].toNat < 128 then -(f[1].toNat : Int) else (f[1].toNat : Int) - 128) ∧
    k.pitch.toInt = (if f[2].toNat < 128 then -(f[2].toNat : Int) else (f[2].toNat : Int) - 128) ∧
    k.roll.toInt = (if f[3].toNat < 128 then -(f[3].toNat : Int) else (f[3].toNat : Int) - 128) ∧
    k.trimYaw.toInt = (f[4].toNat : Int) - 64 ∧ k.trimPitch.toInt = (f[5].toNat : Int) - 64 ∧
    k.trimRoll.toInt = (f[6].toNat : Int) - 64 ∧ k.flags = f[14]

/-- R93: what a frame does in NO_BIND (capture of a checksum-valid BIND frame, nothing else but `FRAME` for any other)
and in SIGNAL_LOST (no frame is read). That BIND and DATA run by themselves do this, and answer class and acceptance
(into `result`, log entry 9), is the model's choice (log entry 11). -/
def Obligations.FrameInNoBindOrSignalLost : Prop :=
  (∀ (b : FrameBody) (s : State) (f : Frame), f = frameOf b 0xC0 → s.fsm = .noBind → crcchk f = true →
    exec (.bind b) s = .next { s with
      frame := f, txid := #v[b.id0, b.id1, b.id2], hop := deriveHop s.params.hopBase b.id0 b.id1 b.id2, cur := 0
      last := s.env.now, fsm := .waitFirstSynchro
      env := { s.env with rxFifo := [], radioCh := (deriveHop s.params.hopBase b.id0 b.id1 b.id2)[0] }
      trace := s.trace ++ [.setch (deriveHop s.params.hopBase b.id0 b.id1 b.id2)[0], .flushrx]
      result := .frame .bind true }) ∧
  (∀ (b : FrameBody) (s : State) (f : Frame), f = frameOf b 0xC0 → s.fsm = .noBind → crcchk f = false →
    exec (.bind b) s = .next { s with frame := f, result := .frame .bind false }) ∧
  (∀ (b : FrameBody) (m : Byte) (s : State), m ≠ 0xC0 → s.fsm = .noBind →
    exec (.data b m) s = .next { s with frame := frameOf b m, result := .frame .data false }) ∧
  (∀ (b : FrameBody) (s : State), s.fsm = .signalLost →
    exec (.bind b) s = .next { s with result := .frame .bind false }) ∧
  (∀ (b : FrameBody) (m : Byte) (s : State), m ≠ 0xC0 → s.fsm = .signalLost →
    exec (.data b m) s = .next { s with result := .frame .data false })

/-- R93: what a frame of either class does in WAIT_FIRST_SYNCHRO (the checksum alone confirms synchronisation) and in
BOUND (checksum and id; credit, and class DATA also decodes the sticks). That BIND and DATA run by themselves do this,
and answer class and acceptance (into `result`, log entry 9), is the model's choice (log entry 11). -/
def Obligations.FrameInWaitOrBound : Prop :=
  ∀ (i : Instr) (cls : FrameClass) (f : Frame) (s : State),
    ((∃ b, i = .bind b ∧ f = frameOf b 0xC0 ∧ cls = .bind) ∨
      (∃ b m, i = .data b m ∧ m ≠ 0xC0 ∧ f = frameOf b m ∧ cls = .data)) →
    ∀ (c : Cursor), c.toNat = (s.cur.toNat + 1) % 16 →
      (s.fsm = .waitFirstSynchro → crcchk f = false →
        exec i s = .next { s with frame := f, result := .frame cls false }) ∧
      (s.fsm = .waitFirstSynchro → crcchk f = true →
        exec i s = .next { s with
          frame := f, last := s.env.now, cur := c, fsm := .bound
          env := { s.env with radioCh := s.hop[c.toNat] }, trace := s.trace ++ [.setch s.hop[c.toNat]]
          result := .frame cls true }) ∧
      (s.fsm = .bound → ¬ (crcchk f = true ∧ #v[f[7], f[8], f[9]] = s.txid) →
        exec i s = .next { s with frame := f, result := .frame cls false }) ∧
      (s.fsm = .bound → crcchk f = true → #v[f[7], f[8], f[9]] = s.txid →
        exec i s = .next { s with
          frame := f, err := 0, last := s.env.now, cur := c
          sticks := if cls = .data then sticksOf f else s.sticks
          env := { s.env with radioCh := s.hop[c.toNat] }, trace := s.trace ++ [.setch s.hop[c.toNat]]
          result := .frame cls true })

/-! ### The hunt -/

/-- R240: ELAPSED is the difference of the two time stamps modulo 2^32 (into `result`, log entry 9). -/
def Obligations.ElapsedWrapsSafely : Prop :=
  ∀ (now last : Tick) (s : State), ∃ r : Tick, exec (.elapsed now last) s = .next { s with result := .ticks r } ∧
    (last.toNat + r.toNat) % 2 ^ 32 = now.toNat

/-- R242: ADV(n) increments the cursor modulo n and commands the entry of the NEW cursor; it writes nothing else. -/
def Obligations.AdvanceIsOneStepRoundRobin : Prop :=
  (∀ s : State, ∃ c : Cursor, ∃ h : c.toNat < 8, c.toNat = (s.cur.toNat + 1) % 8 ∧
    exec (.adv .probe) s = .next { s with
      cur := c, env := { s.env with radioCh := s.probe[c.toNat] }
      trace := s.trace ++ [.setch s.probe[c.toNat]] }) ∧
  (∀ s : State, ∃ c : Cursor, c.toNat = (s.cur.toNat + 1) % 16 ∧
    exec (.adv .hop) s = .next { s with
      cur := c, env := { s.env with radioCh := s.hop[c.toNat] }
      trace := s.trace ++ [.setch s.hop[c.toNat]] })

/-- R246: NB_HUNT advances over PROBE and records the time exactly when the elapsed time exceeds 128 (is at least 128
when PROBE_CMP_STRICT is false), else changes nothing; it returns NOT_BOUND. That the case runs by itself, from
whatever `STATE`, and that its status goes into `result`, is the model's choice (log entries 7 and 9). -/
def Obligations.ProbeRotation : Prop :=
  ∀ (s : State) (e : Nat), e < 2 ^ 32 → (s.last.toNat + e) % 2 ^ 32 = s.env.now.toNat →
    ((if s.params.probeCmpStrict = true then e ≤ 128 else e < 128) →
      exec .nbHunt s = .next { s with result := .status .notBound }) ∧
    ((if s.params.probeCmpStrict = true then e > 128 else e ≥ 128) →
      ∃ c : Cursor, ∃ h : c.toNat < 8, c.toNat = (s.cur.toNat + 1) % 8 ∧
        exec .nbHunt s = .next { s with
          cur := c, last := s.env.now, env := { s.env with radioCh := s.probe[c.toNat] }
          trace := s.trace ++ [.setch s.probe[c.toNat]], result := .status .notBound })

/-- R248, R249: the nudge fires on `ERR = 0` and elapsed above 10, the steady tier on `ERR >= 1` and elapsed above
140, never both in one step; else nothing changes. BD_HUNT returns BOUND_NO_VALUES. That the case runs by itself, from
whatever `STATE`, and that its status goes into `result`, is the model's choice (log entries 7 and 9). -/
def Obligations.TwoTierHunt : Prop :=
  ∀ (s : State) (e : Nat) (c : Cursor), e < 2 ^ 32 → (s.last.toNat + e) % 2 ^ 32 = s.env.now.toNat →
    c.toNat = (s.cur.toNat + 1) % 16 →
    (s.err = 0 → e > 10 →
      exec .bdHunt s = .next { s with
        err := 1, last := s.env.now, cur := c, env := { s.env with radioCh := s.hop[c.toNat] }
        trace := s.trace ++ [.setch s.hop[c.toNat]], result := .status .boundNoValues }) ∧
    (s.err ≠ 0 → e > 140 →
      exec .bdHunt s = .next { s with
        last := s.env.now, cur := c, env := { s.env with radioCh := s.hop[c.toNat] }
        trace := s.trace ++ [.setch s.hop[c.toNat]], result := .status .boundNoValues }) ∧
    ((s.err = 0 ∧ e ≤ 10 ∨ s.err ≠ 0 ∧ e ≤ 140) →
      exec .bdHunt s = .next { s with result := .status .boundNoValues })

/-! ### Transport commands, each by itself (log entry 7); the answer of a command stands in the trace (log entry 10) -/

/-- R270, R271: T_CFGRX and T_SETCH set `RADIO_CH` to the argument (T_CFGRX also puts the transport in receive), and
change nothing else but the trace (log entry 10). That the command runs by itself is log entry 7; the field for the
receive state is log entry 16. -/
def Obligations.ChannelCommandsSetRadioChannel : Prop :=
  (∀ (ch : Byte) (s : State), exec (.tCfgrx ch) s = .next { s with
    env := { s.env with radioCh := ch, receiving := true }, trace := s.trace ++ [.cfgrx ch] }) ∧
  (∀ (ch : Byte) (s : State), exec (.tSetch ch) s = .next { s with
    env := { s.env with radioCh := ch }, trace := s.trace ++ [.setch ch] })

/-- R272, R274, R66: T_POLL answers the data flag and T_EMPTY whether the FIFO holds no payload (in the trace, log
entry 10); neither has a side effect. That the command runs by itself is log entry 7. -/
def Obligations.QueriesHaveNoSideEffect : Prop :=
  (∀ s : State, exec .tPoll s = .next { s with trace := s.trace ++ [.poll s.env.rxPending] }) ∧
  (∀ s : State, ∃ a : Bool, (a = true ↔ s.env.rxFifo = []) ∧
    exec .tEmpty s = .next { s with trace := s.trace ++ [.empty a] })

/-- R273, R276, R277: T_CLRF clears the data flag, T_FLUSHRX empties the receive FIFO and leaves the flag, T_FLUSHTX
empties the transmit FIFO (a field of the model, log entry 16); nothing else changes but the trace (log entry 10).
That the command runs by itself is log entry 7. -/
def Obligations.ClearAndFlushCommands : Prop :=
  (∀ s : State, exec .tClrf s = .next { s with
    env := { s.env with rxPending := false }, trace := s.trace ++ [.clrf] }) ∧
  (∀ s : State, exec .tFlushrx s = .next { s with
    env := { s.env with rxFifo := [] }, trace := s.trace ++ [.flushrx] }) ∧
  (∀ s : State, exec .tFlushtx s = .next { s with
    env := { s.env with txFifo := [] }, trace := s.trace ++ [.flushtx] })

/-- R275, R65: T_READ removes the oldest payload and writes all 16 bytes of `FRAME` from it. That it still completes
on an empty FIFO (U13, not addressed by the spec), with a free payload, whatever it is, is the model's choice (log
entry 12). That the command runs by itself is log entry 7; its answer stands in the trace (log entry 10). -/
def Obligations.ReadTakesOldestPayload : Prop :=
  (∀ (s : State) (f : Frame) (rest : List Frame), s.env.rxFifo = f :: rest →
    exec .tRead s = .next { s with
      frame := f, env := { s.env with rxFifo := rest }, trace := s.trace ++ [.read f] }) ∧
  (∀ s : State, s.env.rxFifo = [] → ∃ f : Frame,
    exec .tRead s = .next { s with frame := f, freeReads := s.freeReads + 1, trace := s.trace ++ [.read f] })

/-! ### Receive cases, each by itself (log entry 7); the status a case returns goes into `result` (log entry 9) -/

/-- R167, R180: WS_IDLE and SL_NOP change nothing and return BIND_IN_PROGRESS. That the case runs by itself, from
whatever `STATE`, and that its status goes into `result`, is the model's choice (log entries 7 and 9). -/
def Obligations.IdleCasesChangeNothing : Prop :=
  (∀ s : State, exec .wsIdle s = .next { s with result := .status .bindInProgress }) ∧
  (∀ s : State, exec .slNop s = .next { s with result := .status .bindInProgress })

/-- R160, R161, R163, R164 (b): the first payload of the pass that passes the checksum and is of class BIND is
captured, in the order of R163; those before it were read and discarded, those after it are flushed unread. That the
case runs by itself, from whatever `STATE`, and that its status goes into `result`, is the model's choice (log entries
7 and 9). -/
def Obligations.FirstBindFrameIsCaptured : Prop :=
  ∀ (s : State) (pre : List Frame) (f : Frame) (post : List Frame) (h : HopTable),
    readable s = pre ++ f :: post → (∀ g ∈ pre, ¬ (crcchk g = true ∧ g[14] = 0xC0)) →
    crcchk f = true → f[14] = 0xC0 → h = deriveHop s.params.hopBase f[7] f[8] f[9] →
    exec .nbRx s = .next { s with
      frame := f, txid := #v[f[7], f[8], f[9]], hop := h, cur := 0, last := s.env.now, fsm := .waitFirstSynchro
      env := { s.env with rxPending := false, rxFifo := [], radioCh := h[0] }
      trace := s.trace ++ (.clrf :: (pre.flatMap (fun g => [.empty false, .read g]) ++
        [.empty false, .read f, .setch h[0], .flushrx]))
      result := .status .bindInProgress }

/-- R164 (a), (c), (d), (e): a pass of NB_RX with no acceptable bind frame changes no register but `FRAME`, and
returns NOT_BOUND. That the case runs by itself, from whatever `STATE`, and that its status goes into `result`, is the
model's choice (log entries 7 and 9). The part of `passTrace` for a finite `DRAIN_MAX` (no T_EMPTY after the last
allowed read) is the model's choice too (log entry 13, DEDUCED). -/
def Obligations.NoBindFrameNoCapture : Prop :=
  ∀ s : State, (∀ g ∈ readable s, ¬ (crcchk g = true ∧ g[14] = 0xC0)) →
    exec .nbRx s = .next { s with
      frame := (readable s).getLastD s.frame
      env := { s.env with rxPending := false, rxFifo := s.env.rxFifo.drop (readable s).length }
      trace := s.trace ++ passTrace s, result := .status .notBound }

/-- R169, R170: any checksum-valid payload of the pass moves WS_RX to BOUND with one advance, after the drain; no
valid payload, no change but `FRAME`. The status is BIND_IN_PROGRESS either way. That the case runs by itself, from
whatever `STATE`, and that its status goes into `result`, is the model's choice (log entries 7 and 9). The part of
`passTrace` for a finite `DRAIN_MAX` (no T_EMPTY after the last allowed read) is the model's choice too (log entry 13,
DEDUCED). -/
def Obligations.AnyValidFrameSynchronises : Prop :=
  ∀ (s : State) (c : Cursor), c.toNat = (s.cur.toNat + 1) % 16 →
    ((∀ g ∈ readable s, crcchk g = false) →
      exec .wsRx s = .next { s with
        frame := (readable s).getLastD s.frame
        env := { s.env with rxPending := false, rxFifo := s.env.rxFifo.drop (readable s).length }
        trace := s.trace ++ passTrace s, result := .status .bindInProgress }) ∧
    ((∃ g ∈ readable s, crcchk g = true) →
      exec .wsRx s = .next { s with
        frame := (readable s).getLastD s.frame, last := s.env.now, cur := c, fsm := .bound
        env := { s.env with
          rxPending := false, rxFifo := s.env.rxFifo.drop (readable s).length, radioCh := s.hop[c.toNat] }
        trace := s.trace ++ (passTrace s ++ [.setch s.hop[c.toNat]]), result := .status .bindInProgress })

/-- R173, R174, R175, R176 (a), (c), (d): BD_RX accepts by checksum and id; an accepted frame resets `ERR` and credits
one advance for the pass; the sticks are those of the last accepted DATA frame; nothing accepted, nothing changes but
`FRAME`. That the case runs by itself, from whatever `STATE`, and that its status goes into `result`, is the model's
choice (log entries 7 and 9). The part of `passTrace` for a finite `DRAIN_MAX` (no T_EMPTY after the last allowed
read) is the model's choice too (log entry 13, DEDUCED). -/
def Obligations.BoundReceivePass : Prop :=
  ∀ (s : State) (c : Cursor), c.toNat = (s.cur.toNat + 1) % 16 →
    (boundAccepted s = [] →
      exec .bdRx s = .next { s with
        frame := (readable s).getLastD s.frame
        env := { s.env with rxPending := false, rxFifo := s.env.rxFifo.drop (readable s).length }
        trace := s.trace ++ passTrace s, result := .status .boundNoValues }) ∧
    (boundAccepted s ≠ [] →
      exec .bdRx s = .next { s with
        frame := (readable s).getLastD s.frame, err := 0, last := s.env.now, cur := c
        sticks := match (boundData s).getLast? with
          | none => s.sticks
          | some f => sticksOf f
        env := { s.env with
          rxPending := false, rxFifo := s.env.rxFifo.drop (readable s).length, radioCh := s.hop[c.toNat] }
        trace := s.trace ++ (passTrace s ++ [.setch s.hop[c.toNat]])
        result := .status (if boundData s = [] then .boundNoValues else .boundNewValues) })

/-- R301, R176 (b), R362: in BOUND the payloads that are not accepted have no effect but on `FRAME`, the FIFO and the
trace. Two runs of BD_RX, one over the whole pass and one over its accepted frames alone, leave every other part of
the state equal. That the case runs by itself, from whatever `STATE`, and that its status goes into `result`, is the
model's choice (log entries 7 and 9). -/
def Obligations.DiscardedFramesLeaveNoMark : Prop :=
  ∀ s : State, ∃ t u : State, exec .bdRx s = .next t ∧
    exec .bdRx { s with env := { s.env with rxFifo := boundAccepted s } } = .next u ∧
    u = { t with frame := u.frame, trace := u.trace, env := { t.env with rxFifo := u.env.rxFifo } }

/-! ### Host operations -/

/-- R131, R132: INIT from any state, whole: the five registers of R131 and T_CFGRX(PROBE[0]). Beside them INIT marks
the block initialised and begins the trace (log entry 21, DEDUCED) and raises `done` (log entry 15), which are the
model's choices; the receive state that T_CFGRX sets is log entry 16. Every other field is unchanged. -/
def Obligations.InitResult : Prop :=
  ∀ s : State, exec .init s = .next { s with
    fsm := .noBind, cur := 0, err := 0, last := s.env.now, status := 4, initialised := true, done := true
    trace := [.cfgrx s.probe[0]], env := { s.env with radioCh := s.probe[0], receiving := true } }

/-- R46: the reset state is power-on followed by INIT, with the values the spec gives: NO_BIND, `CUR`, `ERR` and `STATUS`,
`LAST` the NOW of that INIT, the radio on PROBE[0]. That NOW is 0 there, and what the other registers hold, is the model's
choice (log entries 1, 2, 3): nothing is stated of it. -/
def Obligations.ResetIsPowerOnThenInit : Prop :=
  exec .init State.powerOn = .next State.reset ∧ State.powerOn.initialised = false ∧
  State.reset.fsm = .noBind ∧ State.reset.cur = 0 ∧ State.reset.err = 0 ∧ State.reset.status = 4 ∧
  State.reset.last = State.reset.env.now ∧ State.reset.env.radioCh = State.reset.probe[0]

/-- R306: (a) a STEP before the first INIT and (b) a command presented while a previous one has not completed are
refused. -/
def Obligations.UndefinedUsesAreRefused : Prop :=
  (∀ s : State, s.initialised = false → exec .step s = .refused .stepBeforeInit) ∧
  (∀ (s : State) (l : HostLine) (rest : List HostLine), s.inputs = l :: rest → l.overlap = true →
    step s = .refused .overlappingCommand)

/-- A step takes the next command of the queue and runs the operation its word decodes to, with NOW, the pending flag
and the FIFO as the command's line gives them (R130, R110); with no command it does nothing (R343). The model's
choices here: that commands wait in a queue (log entry 6), that a queued SEL, TCMD or FRAME word runs its operation by
itself (log entry 7), and that an undecodable word is refused (log entry 20, DEDUCED). -/
def Obligations.StepRunsTheDecodedCommand : Prop :=
  (∀ (s : State) (l : HostLine) (rest : List HostLine) (i : Instr), s.inputs = l :: rest → l.overlap = false →
    decode l.word = .ok i →
    step s = exec i { s with
      inputs := rest, env := { s.env with now := l.now, rxPending := l.pend, rxFifo := l.fifo } }) ∧
  (∀ s : State, s.inputs = [] → step s = .next s) ∧
  (∀ (s : State) (l : HostLine) (rest : List HostLine) (e : DecodeReject), s.inputs = l :: rest →
    l.overlap = false → decode l.word = .error e → step s = .refused (.undecodable e))

/-- R133, R134, R135, R137, R95: STEP polls once unless `STATE = 3`, runs exactly the case that SEL = {STATE, pending}
decodes to (on the state with the poll in its trace), and writes the status that case returns to `STATUS`. The model's
choices here: that the case by itself (log entry 7) answers its status in `result`, which STEP leaves as it was (log
entry 9), and that STEP raises `done` (log entry 15). STEP changes nothing further. -/
def Obligations.StepRunsTheSelectedCase : Prop :=
  ∀ s : State, s.initialised = true → ∃ (i : Instr) (u : State) (st : Status),
    decode (selWord s.fsm s.env.rxPending) = .ok i ∧ i.format = .sel ∧
    exec i { s with trace := if s.fsm = .signalLost then [] else [.poll s.env.rxPending] } = .next u ∧
    u.result = .status st ∧
    exec .step s = .next { u with result := s.result, status := statusCode st, done := true }

/-- R144, R142: every STEP from an initialised state completes, with one of the codes 0 to 3 in `STATUS`. That `done`
is up in the state after it is the model's choice (log entry 15). -/
def Obligations.StepAlwaysCompletes : Prop :=
  ∀ s : State, s.initialised = true → ∃ t : State, exec .step s = .next t ∧ t.status.toNat ≤ 3 ∧ t.done = true

/-- R9, R305: no operation has a fault outcome; INIT completes from every state and STEP (R144) from every initialised
one. The rules speak of these two: that a step case, a transport command or a frame completes when it is run by
itself, also before the first INIT, is the model's choice (log entries 7 and 11), and so is that T_READ completes on
an empty FIFO (log entry 12). -/
def Obligations.EveryOperationCompletes : Prop :=
  ∀ (i : Instr) (s : State), (i = .step → s.initialised = true) → ∃ t : State, exec i s = .next t

/-- R141: the status of a STEP by case and condition. -/
def Obligations.StatusByCase : Prop :=
  ∀ s : State, s.initialised = true → ∃ t : State, exec .step s = .next t ∧ t.status =
    match s.fsm, s.env.rxPending with
    | .noBind, false => 2
    | .noBind, true => if ∃ f ∈ readable s, crcchk f = true ∧ f[14] = 0xC0 then 3 else 2
    | .waitFirstSynchro, _ => 3
    | .bound, false => 1
    | .bound, true => if ∃ f ∈ readable s, crcchk f = true ∧ #v[f[7], f[8], f[9]] = s.txid ∧ f[14] ≠ 0xC0 then 0 else 1
    | .signalLost, _ => 3

/-- R143, R39, R40: `STATUS = 0` after a STEP exactly says that the sticks are the decode of the last accepted DATA frame of
the pass, whose flags byte is not 0xC0; any other status, and they hold what they held. -/
def Obligations.SticksAreFreshExactlyOnNewValues : Prop :=
  ∀ s t : State, exec .step s = .next t →
    (t.status = 0 → s.fsm = .bound ∧ s.env.rxPending = true ∧
      ∃ f, (boundData s).getLast? = some f ∧ t.sticks = sticksOf f ∧ t.sticks.flags ≠ 0xC0) ∧
    (t.status ≠ 0 → t.sticks = s.sticks)

/-- R145: bounds per STEP, counted in the trace of the command (R70, R130; log entry 10). One T_POLL unless `STATE =
3`, one T_CLRF exactly when `pending = 1`, at most one T_SETCH, one T_FLUSHRX exactly with a capture, no T_CFGRX and
no T_FLUSHTX, as many T_READ as T_EMPTY(0); `LAST` is written with `now` or not at all; `CUR` is kept, reset, or
advanced once; `STATE` changes at most once. -/
def Obligations.BoundsPerStep : Prop :=
  ∀ s t : State, exec .step s = .next t →
    t.trace.countP isPoll = (if s.fsm = .signalLost then 0 else 1) ∧
    t.trace.count .clrf = (if s.fsm ≠ .signalLost ∧ s.env.rxPending = true then 1 else 0) ∧
    t.trace.countP isSetch ≤ 1 ∧
    t.trace.count .flushrx = (if s.fsm = .noBind ∧ t.fsm = .waitFirstSynchro then 1 else 0) ∧
    t.trace.countP isCfgrx = 0 ∧ t.trace.count .flushtx = 0 ∧
    t.trace.countP isRead = t.trace.countP isEmptyNo ∧
    (t.last = s.last ∨ t.last = s.env.now) ∧
    (t.cur = s.cur ∨ t.cur = 0 ∨ t.cur.toNat = (s.cur.toNat + 1) % 8 ∨ t.cur.toNat = (s.cur.toNat + 1) % 16) ∧
    (t.fsm = s.fsm ∨ s.fsm = .noBind ∧ t.fsm = .waitFirstSynchro ∨ s.fsm = .waitFirstSynchro ∧ t.fsm = .bound)

/-- R32: how INIT and each case of STEP advance the sequencing state, `STATE` and `CUR`. -/
def Obligations.SequencingByCase : Prop :=
  (∀ s : State, ∃ t : State, exec .init s = .next t ∧ t.fsm = .noBind ∧ t.cur = 0) ∧
  ∀ (s : State) (e : Nat), s.initialised = true → e < 2 ^ 32 → (s.last.toNat + e) % 2 ^ 32 = s.env.now.toNat →
    ∃ t : State, exec .step s = .next t ∧
      match s.fsm, s.env.rxPending with
      | .noBind, false => t.fsm = .noBind ∧
          t.cur.toNat = if 128 < e ∨ s.params.probeCmpStrict = false ∧ e = 128 then (s.cur.toNat + 1) % 8 else s.cur.toNat
      | .noBind, true =>
          if ∃ f ∈ readable s, crcchk f = true ∧ f[14] = 0xC0 then t.fsm = .waitFirstSynchro ∧ t.cur = 0
          else t.fsm = .noBind ∧ t.cur = s.cur
      | .waitFirstSynchro, false => t.fsm = .waitFirstSynchro ∧ t.cur = s.cur
      | .waitFirstSynchro, true =>
          if ∃ f ∈ readable s, crcchk f = true then t.fsm = .bound ∧ t.cur.toNat = (s.cur.toNat + 1) % 16
          else t.fsm = .waitFirstSynchro ∧ t.cur = s.cur
      | .bound, false => t.fsm = .bound ∧
          t.cur.toNat = if s.err = 0 ∧ 10 < e ∨ s.err ≠ 0 ∧ 140 < e then (s.cur.toNat + 1) % 16 else s.cur.toNat
      | .bound, true => t.fsm = .bound ∧
          t.cur.toNat = if ∃ f ∈ readable s, crcchk f = true ∧ #v[f[7], f[8], f[9]] = s.txid
            then (s.cur.toNat + 1) % 16 else s.cur.toNat
      | .signalLost, _ => t.fsm = .signalLost ∧ t.cur = s.cur

/-! ### Whole-machine rules -/

/-- R45 holds at the reset state, whose queue of commands is empty. -/
def Obligations.InvariantsHoldAtReset : Prop := Inv State.reset ∧ HostDriven State.reset

/-- R45: INIT establishes the invariants from every state, and every step of a machine driven by INIT and STEP commands
alone keeps them, whatever the clock and the transport answer. And once `HOP` holds no multiple of 16 it never does
again ((f) "of `HOP` once written"), whatever operation runs. -/
def Obligations.HostStepsKeepTheInvariants : Prop :=
  (∀ s t : State, exec .init s = .next t → Inv t) ∧
  (∀ s t : State, Inv s → HostDriven s → step s = .next t → Inv t ∧ HostDriven t) ∧
  (∀ (i : Instr) (s t : State), NibblesNonzero s.hop → exec i s = .next t → NibblesNonzero t.hop)

/-- R22: the transitions of `STATE`. INIT leads to NO_BIND; a STEP keeps the state or goes 0 to 1 or 1 to 2; and no
operation at all writes SIGNAL_LOST. -/
def Obligations.OnlyTheListedTransitions : Prop :=
  (∀ s t : State, exec .init s = .next t → t.fsm = .noBind) ∧
  (∀ s t : State, exec .step s = .next t → t.fsm = s.fsm ∨
    s.fsm = .noBind ∧ t.fsm = .waitFirstSynchro ∨ s.fsm = .waitFirstSynchro ∧ t.fsm = .bound) ∧
  (∀ (i : Instr) (s t : State), exec i s = .next t → t.fsm = .signalLost → s.fsm = .signalLost)

/-- R25, R27, R42: whatever operation runs, `TXID` and `HOP` are unchanged, or a capture wrote both: the new table is
DERIVE of the new id, `CUR` is 0, the state is WAIT_FIRST_SYNCHRO, and the operation was a STEP or (by itself, the
model's choice, log entries 7 and 11) an NB_RX or a frame. -/
def Obligations.IdentityIsWrittenOnlyByCapture : Prop :=
  ∀ (i : Instr) (s t : State), exec i s = .next t →
    (t.txid = s.txid ∧ t.hop = s.hop) ∨
    (t.fsm = .waitFirstSynchro ∧ t.cur = 0 ∧ t.last = s.env.now ∧
      t.hop = deriveHop s.params.hopBase t.txid[0] t.txid[1] t.txid[2] ∧
      t.txid = #v[t.frame[7], t.frame[8], t.frame[9]] ∧ crcchk t.frame = true ∧ t.frame[14] = 0xC0 ∧
      (i = .step ∨ i = .nbRx ∨ i.format = .frame))

/-- R8, R29, R28: the parameters, and with them `HOP_BASE` and `PROBE`, are constants: no operation changes them, and an
instantiation that meets R6 and R197 keeps meeting them. -/
def Obligations.TablesAreConstants : Prop :=
  ∀ (i : Instr) (s t : State), exec i s = .next t →
    t.params = s.params ∧ t.probe = s.probe ∧ (s.params.wf = true → t.params.wf = true)

/-- R42: what the host reads (`STATUS`, the stick registers) is written only as the access table says: `STATUS` by
INIT and STEP, the sticks by STEP, or (by itself, the model's choice, log entries 7, 9 and 11) by BD_RX, SDECODE or a
frame; and INIT writes none of `TXID`, `HOP`, `FRAME`, the sticks. -/
def Obligations.OutputsAreWrittenOnlyWhereListed : Prop :=
  (∀ (i : Instr) (s t : State), exec i s = .next t → t.status ≠ s.status → i.format = .hcmd) ∧
  (∀ (i : Instr) (s t : State), exec i s = .next t → t.sticks ≠ s.sticks →
    i = .step ∨ i = .bdRx ∨ i.format = .frame ∨ ∃ f, i = .sdecode f) ∧
  (∀ s t : State, exec .init s = .next t →
    t.txid = s.txid ∧ t.hop = s.hop ∧ t.frame = s.frame ∧ t.sticks = s.sticks)

/-- R61, R145, R277: from a state that meets the invariants, every channel a host command commands has a nonzero low nibble,
and T_FLUSHTX is never issued. -/
def Obligations.CommandedChannelsAreNoMultipleOfSixteen : Prop :=
  ∀ (s t : State) (l : HostLine) (rest : List HostLine), Inv s → HostDriven s → s.inputs = l :: rest →
    step s = .next t → ∀ e ∈ t.trace, e ≠ .flushtx ∧ ∀ ch, eventChannel e = some ch → ch.toNat % 16 ≠ 0

/-- R355: WAIT_FIRST_SYNCHRO has no timeout. Whatever the clock says, a run of STEP commands (a queue of lines, log
entry 6) that bring no checksum-valid payload leaves state, cursor, time reference and tables as they were, and
reports BIND_IN_PROGRESS. -/
def Obligations.WaitingNeverTimesOut : Prop :=
  ∀ s : State, s.initialised = true → s.fsm = .waitFirstSynchro → s.status = 3 →
    (∀ l ∈ s.inputs, l.word = ⟨.hcmd, 1⟩ ∧ l.overlap = false ∧ (l.pend = true → ∀ f ∈ l.fifo, crcchk f = false)) →
    ∃ t : State, core.run s.inputs.length s = .next t ∧ t.inputs = [] ∧ t.fsm = .waitFirstSynchro ∧ t.status = 3 ∧
      t.cur = s.cur ∧ t.err = s.err ∧ t.last = s.last ∧ t.txid = s.txid ∧ t.hop = s.hop ∧ t.sticks = s.sticks ∧
      t.env.radioCh = s.env.radioCh

/-- R356, R362, R250 (f): BOUND is for ever. A run of STEP commands (a queue of lines, log entry 6), whatever they
bring and whenever they come, stays BOUND with the same id and hop table; only INIT leaves. -/
def Obligations.BoundIsForEver : Prop :=
  ∀ s : State, s.initialised = true → s.fsm = .bound →
    (∀ l ∈ s.inputs, l.word = ⟨.hcmd, 1⟩ ∧ l.overlap = false) →
    ∃ t : State, core.run s.inputs.length s = .next t ∧ t.inputs = [] ∧ t.fsm = .bound ∧ t.txid = s.txid ∧ t.hop = s.hop

/-- R358: a busy flag starves the probe rotation. A run of STEP commands (a queue of lines, log entry 6) in NO_BIND,
each with the flag set and no acceptable bind frame, however long it lasts, leaves the cursor, the radio channel, the
time reference and `ERR` as they were. -/
def Obligations.BusyFlagStarvesTheRotation : Prop :=
  ∀ s : State, s.initialised = true → s.fsm = .noBind →
    (∀ l ∈ s.inputs, l.word = ⟨.hcmd, 1⟩ ∧ l.overlap = false ∧ l.pend = true ∧
      ∀ f ∈ l.fifo, ¬ (crcchk f = true ∧ f[14] = 0xC0)) →
    ∃ t : State, core.run s.inputs.length s = .next t ∧ t.inputs = [] ∧ t.fsm = .noBind ∧ t.cur = s.cur ∧
      t.env.radioCh = s.env.radioCh ∧ t.last = s.last ∧ t.err = s.err ∧ t.txid = s.txid ∧ t.hop = s.hop

/-- R240, R354, R11: time enters only as differences. Moving NOW and LAST by the same number of ticks, across a wrap or not,
moves them in the result and changes nothing else, for INIT and for STEP. -/
def Obligations.ClockWrapIsHarmless : Prop :=
  ∀ (i : Instr) (d : Tick) (s t : State), i.format = .hcmd → exec i s = .next t →
    exec i { s with last := s.last + d, env := { s.env with now := s.env.now + d } } =
      .next { t with last := t.last + d, env := { t.env with now := t.env.now + d } }
end

