-- ==== Sys2Proof/Laws/Frames.lean ====
section
/-! SUPPORT. The pure functions and the conditions of Flags, Operands and HopTables in the numbers of the spec's rules:
one lemma each, cited in place of their definitions. -/

namespace Sys2Proof.Machine

/-! ### Frames -/

theorem fclass_eq_data_iff (f : Frame) : (fclass f == .data) = true ↔ f[14] ≠ 0xC0 := by
  rw [fclass, markByte]
  by_cases h : f[14] = (0xC0 : Byte) <;> simp [h]

theorem bindable_iff (f : Frame) : bindable f = true ↔ crcchk f = true ∧ f[14] = 0xC0 := by
  rw [bindable, Bool.and_eq_true, fclass, markByte]
  by_cases h : f[14] = (0xC0 : Byte) <;> simp [h]

theorem idmatch_iff (f : Frame) (t : TxId) : idmatch f t = true ↔ #v[f[7], f[8], f[9]] = t := by
  rcases t with ⟨⟨l⟩, hl⟩
  simp at hl
  match l, hl with
  | [a, b, c], _ => simp [idmatch, and_assoc, ← Vector.toArray_inj]

/-- What replacing one summed byte does to the sum (R210). -/
theorem checksum_set (f : Frame) (i : Nat) (hi : i < 15) (v : Byte) :
    checksum (f.set i v) = checksum f - f[i] + v := by
  rcases f with ⟨⟨l⟩, hl⟩
  simp at hl
  match l, hl with
  | [a0, a1, a2, a3, a4, a5, a6, a7, a8, a9, a10, a11, a12, a13, a14, a15], _ =>
    interval_cases i <;> simp [checksum] <;> abel

/-! ### The derivation engine -/

theorem avoid16_toNat (v : Byte) :
    (avoid16 v).toNat = if v.toNat % 16 ≠ 0 then v.toNat else (v.toNat + 253) % 256 := by
  revert v; decide

theorem idRow_val (sum : Byte) : (idRow sum).val = sum.toNat % 4 := by revert sum; decide

theorem idInc_toNat (sum : Byte) : (idInc sum).toNat = sum.toNat / 4 % 8 := by revert sum; decide

/-! ### Times -/

theorem elapsed_toNat {now last : Tick} {e : Nat} (h1 : e < 2 ^ 32) (h : (last.toNat + e) % 2 ^ 32 = now.toNat) :
    (elapsed now last).toNat = e := by
  simp only [elapsed, BitVec.toNat_sub]; omega

theorem probeFires_iff {b : Bool} {x : Tick} :
    probeFires b x = true ↔ 128 < x.toNat ∨ b = false ∧ x.toNat = 128 := by
  cases b <;> simp [probeFires, BitVec.lt_def, BitVec.le_def]; omega

theorem nudgeFires_iff {a : BitVec 8} {x : Tick} : nudgeFires a x = true ↔ a = 0 ∧ 10 < x.toNat := by
  simp [nudgeFires, BitVec.lt_def]

theorem huntFires_iff {a : BitVec 8} {x : Tick} : huntFires a x = true ↔ a ≠ 0 ∧ 140 < x.toNat := by
  simp only [huntFires, BitVec.lt_def, BitVec.le_def, Bool.and_eq_true, decide_eq_true_eq]
  have : (1 : BitVec 8).toNat ≤ a.toNat ↔ a ≠ 0 := by
    rw [ne_eq, ← BitVec.toNat_inj]; simp; omega
  rw [this]; rfl

/-! ### Encoding -/

/-- Bits above the low part of a concatenation. -/
theorem extractLsb'_append_high {v w n l : Nat} {x : BitVec v} {y : BitVec w} (h : w ≤ n) :
    BitVec.extractLsb' n l (x ++ y) = BitVec.extractLsb' (n - w) l x :=
  BitVec.extractLsb'_append_eq_of_le h

/-- The same with the position in the high part given. -/
theorem extractLsb'_append_at {v w n l : Nat} {x : BitVec v} {y : BitVec w} (k : Nat) (h : n = w + k) :
    BitVec.extractLsb' n l (x ++ y) = BitVec.extractLsb' k l x := by
  subst h; rw [extractLsb'_append_high (Nat.le_add_right _ _), Nat.add_sub_cancel_left]

theorem tcmdWord_code (c : BitVec 3) (a : Byte) : (tcmdWord c a).extractLsb' 8 3 = c :=
  (extractLsb'_append_at 0 rfl).trans BitVec.extractLsb'_eq_self

theorem tcmdWord_arg (c : BitVec 3) (a : Byte) : (tcmdWord c a).extractLsb' 0 8 = a :=
  BitVec.extractLsb'_append_eq_right

/-- The low seven bytes of a frame word lie below its id. -/
theorem frameWord_low {n l : Nat} (k : Nat) (h : n = 56 + k) (b : FrameBody) (m : Byte) :
    (frameWord b m).extractLsb' n l = (b.csum ++ m ++ b.rsv ++ b.id2 ++ b.id1 ++ b.id0).extractLsb' k l := by
  subst h
  rw [frameWord]
  refine (extractLsb'_append_at (48 + k) (by omega)).trans ?_
  refine (extractLsb'_append_at (40 + k) (by omega)).trans ?_
  refine (extractLsb'_append_at (32 + k) (by omega)).trans ?_
  refine (extractLsb'_append_at (24 + k) (by omega)).trans ?_
  refine (extractLsb'_append_at (16 + k) (by omega)).trans ?_
  refine (extractLsb'_append_at (8 + k) (by omega)).trans ?_
  exact extractLsb'_append_at k (by omega)

/-- Bytes 7 to 9 and RSV lie below MARK. -/
theorem frameWord_high {n l : Nat} (k : Nat) (h : n = 112 + k) (b : FrameBody) (m : Byte) :
    (frameWord b m).extractLsb' n l = (b.csum ++ m).extractLsb' k l := by
  refine (frameWord_low (56 + k) (by omega) b m).trans ?_
  refine (extractLsb'_append_at (48 + k) (by omega)).trans ?_
  refine (extractLsb'_append_at (40 + k) (by omega)).trans ?_
  refine (extractLsb'_append_at (32 + k) (by omega)).trans ?_
  exact extractLsb'_append_at k (by omega)

theorem frameMark_frameWord (b : FrameBody) (m : Byte) : frameMark (frameWord b m) = m :=
  (frameWord_high 0 rfl b m).trans BitVec.extractLsb'_append_eq_right

theorem frameBodyOf_frameWord (b : FrameBody) (m : Byte) : frameBodyOf (frameWord b m) = b := by
  have hc : (frameWord b m).extractLsb' 120 8 = b.csum :=
    (frameWord_high 8 rfl b m).trans ((extractLsb'_append_at 0 rfl).trans BitVec.extractLsb'_eq_self)
  have h0 : (frameWord b m).extractLsb' 56 8 = b.id0 :=
    (frameWord_low 0 rfl b m).trans BitVec.extractLsb'_append_eq_right
  have h1 : (frameWord b m).extractLsb' 64 8 = b.id1 :=
    (frameWord_low 8 rfl b m).trans ((extractLsb'_append_at 0 rfl).trans BitVec.extractLsb'_append_eq_right)
  have h2 : (frameWord b m).extractLsb' 72 8 = b.id2 :=
    (frameWord_low 16 rfl b m).trans ((extractLsb'_append_at 8 rfl).trans
      ((extractLsb'_append_at 0 rfl).trans BitVec.extractLsb'_append_eq_right))
  have hr : (frameWord b m).extractLsb' 80 32 = b.rsv :=
    (frameWord_low 24 rfl b m).trans ((extractLsb'_append_at 16 rfl).trans ((extractLsb'_append_at 8 rfl).trans
      ((extractLsb'_append_at 0 rfl).trans BitVec.extractLsb'_append_eq_right)))
  have l0 : (frameWord b m).extractLsb' 0 8 = b.thrB := BitVec.extractLsb'_append_eq_right
  have l1 : (frameWord b m).extractLsb' 8 8 = b.yawB :=
    (extractLsb'_append_at 0 rfl).trans BitVec.extractLsb'_append_eq_right
  have l2 : (frameWord b m).extractLsb' 16 8 = b.pitchB :=
    (extractLsb'_append_at 8 rfl).trans ((extractLsb'_append_at 0 rfl).trans BitVec.extractLsb'_append_eq_right)
  have l3 : (frameWord b m).extractLsb' 24 8 = b.rollB :=
    (extractLsb'_append_at 16 rfl).trans ((extractLsb'_append_at 8 rfl).trans
      ((extractLsb'_append_at 0 rfl).trans BitVec.extractLsb'_append_eq_right))
  have l4 : (frameWord b m).extractLsb' 32 8 = b.trim0B :=
    (extractLsb'_append_at 24 rfl).trans ((extractLsb'_append_at 16 rfl).trans ((extractLsb'_append_at 8 rfl).trans
      ((extractLsb'_append_at 0 rfl).trans BitVec.extractLsb'_append_eq_right)))
  have l5 : (frameWord b m).extractLsb' 40 8 = b.trim1B :=
    (extractLsb'_append_at 32 rfl).trans ((extractLsb'_append_at 24 rfl).trans ((extractLsb'_append_at 16 rfl).trans
      ((extractLsb'_append_at 8 rfl).trans ((extractLsb'_append_at 0 rfl).trans BitVec.extractLsb'_append_eq_right))))
  have l6 : (frameWord b m).extractLsb' 48 8 = b.trim2B :=
    (extractLsb'_append_at 40 rfl).trans ((extractLsb'_append_at 32 rfl).trans ((extractLsb'_append_at 24 rfl).trans
      ((extractLsb'_append_at 16 rfl).trans ((extractLsb'_append_at 8 rfl).trans
        ((extractLsb'_append_at 0 rfl).trans BitVec.extractLsb'_append_eq_right)))))
  rw [frameBodyOf, l0, l1, l2, l3, l4, l5, l6, h0, h1, h2, hr, hc]

end Sys2Proof.Machine
end

