-- ==== Sys2Proof/Laws/State.lean ====
section
/-! SUPPORT. One lemma per field per register write: what the write puts in its field, and that it leaves every other
field alone. All true by definition; they keep later proofs from unfolding record updates. -/

namespace Sys2Proof.Machine.State

@[simp] theorem setFsm_fsm (v : FsmState) (s : State) : (s.setFsm v).fsm = v := rfl
@[simp] theorem setFsm_cur (v : FsmState) (s : State) : (s.setFsm v).cur = s.cur := rfl
@[simp] theorem setFsm_err (v : FsmState) (s : State) : (s.setFsm v).err = s.err := rfl
@[simp] theorem setFsm_last (v : FsmState) (s : State) : (s.setFsm v).last = s.last := rfl
@[simp] theorem setFsm_status (v : FsmState) (s : State) : (s.setFsm v).status = s.status := rfl
@[simp] theorem setFsm_txid (v : FsmState) (s : State) : (s.setFsm v).txid = s.txid := rfl
@[simp] theorem setFsm_hop (v : FsmState) (s : State) : (s.setFsm v).hop = s.hop := rfl
@[simp] theorem setFsm_frame (v : FsmState) (s : State) : (s.setFsm v).frame = s.frame := rfl
@[simp] theorem setFsm_sticks (v : FsmState) (s : State) : (s.setFsm v).sticks = s.sticks := rfl
@[simp] theorem setFsm_params (v : FsmState) (s : State) : (s.setFsm v).params = s.params := rfl
@[simp] theorem setFsm_initialised (v : FsmState) (s : State) : (s.setFsm v).initialised = s.initialised := rfl
@[simp] theorem setFsm_done (v : FsmState) (s : State) : (s.setFsm v).done = s.done := rfl
@[simp] theorem setFsm_trace (v : FsmState) (s : State) : (s.setFsm v).trace = s.trace := rfl
@[simp] theorem setFsm_env (v : FsmState) (s : State) : (s.setFsm v).env = s.env := rfl
@[simp] theorem setFsm_inputs (v : FsmState) (s : State) : (s.setFsm v).inputs = s.inputs := rfl
@[simp] theorem setFsm_result (v : FsmState) (s : State) : (s.setFsm v).result = s.result := rfl
@[simp] theorem setFsm_freeReads (v : FsmState) (s : State) : (s.setFsm v).freeReads = s.freeReads := rfl

@[simp] theorem setCur_fsm (v : Cursor) (s : State) : (s.setCur v).fsm = s.fsm := rfl
@[simp] theorem setCur_cur (v : Cursor) (s : State) : (s.setCur v).cur = v := rfl
@[simp] theorem setCur_err (v : Cursor) (s : State) : (s.setCur v).err = s.err := rfl
@[simp] theorem setCur_last (v : Cursor) (s : State) : (s.setCur v).last = s.last := rfl
@[simp] theorem setCur_status (v : Cursor) (s : State) : (s.setCur v).status = s.status := rfl
@[simp] theorem setCur_txid (v : Cursor) (s : State) : (s.setCur v).txid = s.txid := rfl
@[simp] theorem setCur_hop (v : Cursor) (s : State) : (s.setCur v).hop = s.hop := rfl
@[simp] theorem setCur_frame (v : Cursor) (s : State) : (s.setCur v).frame = s.frame := rfl
@[simp] theorem setCur_sticks (v : Cursor) (s : State) : (s.setCur v).sticks = s.sticks := rfl
@[simp] theorem setCur_params (v : Cursor) (s : State) : (s.setCur v).params = s.params := rfl
@[simp] theorem setCur_initialised (v : Cursor) (s : State) : (s.setCur v).initialised = s.initialised := rfl
@[simp] theorem setCur_done (v : Cursor) (s : State) : (s.setCur v).done = s.done := rfl
@[simp] theorem setCur_trace (v : Cursor) (s : State) : (s.setCur v).trace = s.trace := rfl
@[simp] theorem setCur_env (v : Cursor) (s : State) : (s.setCur v).env = s.env := rfl
@[simp] theorem setCur_inputs (v : Cursor) (s : State) : (s.setCur v).inputs = s.inputs := rfl
@[simp] theorem setCur_result (v : Cursor) (s : State) : (s.setCur v).result = s.result := rfl
@[simp] theorem setCur_freeReads (v : Cursor) (s : State) : (s.setCur v).freeReads = s.freeReads := rfl

@[simp] theorem setErr_fsm (v : BitVec 8) (s : State) : (s.setErr v).fsm = s.fsm := rfl
@[simp] theorem setErr_cur (v : BitVec 8) (s : State) : (s.setErr v).cur = s.cur := rfl
@[simp] theorem setErr_err (v : BitVec 8) (s : State) : (s.setErr v).err = v := rfl
@[simp] theorem setErr_last (v : BitVec 8) (s : State) : (s.setErr v).last = s.last := rfl
@[simp] theorem setErr_status (v : BitVec 8) (s : State) : (s.setErr v).status = s.status := rfl
@[simp] theorem setErr_txid (v : BitVec 8) (s : State) : (s.setErr v).txid = s.txid := rfl
@[simp] theorem setErr_hop (v : BitVec 8) (s : State) : (s.setErr v).hop = s.hop := rfl
@[simp] theorem setErr_frame (v : BitVec 8) (s : State) : (s.setErr v).frame = s.frame := rfl
@[simp] theorem setErr_sticks (v : BitVec 8) (s : State) : (s.setErr v).sticks = s.sticks := rfl
@[simp] theorem setErr_params (v : BitVec 8) (s : State) : (s.setErr v).params = s.params := rfl
@[simp] theorem setErr_initialised (v : BitVec 8) (s : State) : (s.setErr v).initialised = s.initialised := rfl
@[simp] theorem setErr_done (v : BitVec 8) (s : State) : (s.setErr v).done = s.done := rfl
@[simp] theorem setErr_trace (v : BitVec 8) (s : State) : (s.setErr v).trace = s.trace := rfl
@[simp] theorem setErr_env (v : BitVec 8) (s : State) : (s.setErr v).env = s.env := rfl
@[simp] theorem setErr_inputs (v : BitVec 8) (s : State) : (s.setErr v).inputs = s.inputs := rfl
@[simp] theorem setErr_result (v : BitVec 8) (s : State) : (s.setErr v).result = s.result := rfl
@[simp] theorem setErr_freeReads (v : BitVec 8) (s : State) : (s.setErr v).freeReads = s.freeReads := rfl

@[simp] theorem setLast_fsm (v : Tick) (s : State) : (s.setLast v).fsm = s.fsm := rfl
@[simp] theorem setLast_cur (v : Tick) (s : State) : (s.setLast v).cur = s.cur := rfl
@[simp] theorem setLast_err (v : Tick) (s : State) : (s.setLast v).err = s.err := rfl
@[simp] theorem setLast_last (v : Tick) (s : State) : (s.setLast v).last = v := rfl
@[simp] theorem setLast_status (v : Tick) (s : State) : (s.setLast v).status = s.status := rfl
@[simp] theorem setLast_txid (v : Tick) (s : State) : (s.setLast v).txid = s.txid := rfl
@[simp] theorem setLast_hop (v : Tick) (s : State) : (s.setLast v).hop = s.hop := rfl
@[simp] theorem setLast_frame (v : Tick) (s : State) : (s.setLast v).frame = s.frame := rfl
@[simp] theorem setLast_sticks (v : Tick) (s : State) : (s.setLast v).sticks = s.sticks := rfl
@[simp] theorem setLast_params (v : Tick) (s : State) : (s.setLast v).params = s.params := rfl
@[simp] theorem setLast_initialised (v : Tick) (s : State) : (s.setLast v).initialised = s.initialised := rfl
@[simp] theorem setLast_done (v : Tick) (s : State) : (s.setLast v).done = s.done := rfl
@[simp] theorem setLast_trace (v : Tick) (s : State) : (s.setLast v).trace = s.trace := rfl
@[simp] theorem setLast_env (v : Tick) (s : State) : (s.setLast v).env = s.env := rfl
@[simp] theorem setLast_inputs (v : Tick) (s : State) : (s.setLast v).inputs = s.inputs := rfl
@[simp] theorem setLast_result (v : Tick) (s : State) : (s.setLast v).result = s.result := rfl
@[simp] theorem setLast_freeReads (v : Tick) (s : State) : (s.setLast v).freeReads = s.freeReads := rfl

@[simp] theorem setStatus_fsm (v : Status) (s : State) : (s.setStatus v).fsm = s.fsm := rfl
@[simp] theorem setStatus_cur (v : Status) (s : State) : (s.setStatus v).cur = s.cur := rfl
@[simp] theorem setStatus_err (v : Status) (s : State) : (s.setStatus v).err = s.err := rfl
@[simp] theorem setStatus_last (v : Status) (s : State) : (s.setStatus v).last = s.last := rfl
@[simp] theorem setStatus_status (v : Status) (s : State) : (s.setStatus v).status = statusCode v := rfl
@[simp] theorem setStatus_txid (v : Status) (s : State) : (s.setStatus v).txid = s.txid := rfl
@[simp] theorem setStatus_hop (v : Status) (s : State) : (s.setStatus v).hop = s.hop := rfl
@[simp] theorem setStatus_frame (v : Status) (s : State) : (s.setStatus v).frame = s.frame := rfl
@[simp] theorem setStatus_sticks (v : Status) (s : State) : (s.setStatus v).sticks = s.sticks := rfl
@[simp] theorem setStatus_params (v : Status) (s : State) : (s.setStatus v).params = s.params := rfl
@[simp] theorem setStatus_initialised (v : Status) (s : State) : (s.setStatus v).initialised = s.initialised := rfl
@[simp] theorem setStatus_done (v : Status) (s : State) : (s.setStatus v).done = s.done := rfl
@[simp] theorem setStatus_trace (v : Status) (s : State) : (s.setStatus v).trace = s.trace := rfl
@[simp] theorem setStatus_env (v : Status) (s : State) : (s.setStatus v).env = s.env := rfl
@[simp] theorem setStatus_inputs (v : Status) (s : State) : (s.setStatus v).inputs = s.inputs := rfl
@[simp] theorem setStatus_result (v : Status) (s : State) : (s.setStatus v).result = s.result := rfl
@[simp] theorem setStatus_freeReads (v : Status) (s : State) : (s.setStatus v).freeReads = s.freeReads := rfl

@[simp] theorem setTxid_fsm (v : TxId) (s : State) : (s.setTxid v).fsm = s.fsm := rfl
@[simp] theorem setTxid_cur (v : TxId) (s : State) : (s.setTxid v).cur = s.cur := rfl
@[simp] theorem setTxid_err (v : TxId) (s : State) : (s.setTxid v).err = s.err := rfl
@[simp] theorem setTxid_last (v : TxId) (s : State) : (s.setTxid v).last = s.last := rfl
@[simp] theorem setTxid_status (v : TxId) (s : State) : (s.setTxid v).status = s.status := rfl
@[simp] theorem setTxid_txid (v : TxId) (s : State) : (s.setTxid v).txid = v := rfl
@[simp] theorem setTxid_hop (v : TxId) (s : State) : (s.setTxid v).hop = s.hop := rfl
@[simp] theorem setTxid_frame (v : TxId) (s : State) : (s.setTxid v).frame = s.frame := rfl
@[simp] theorem setTxid_sticks (v : TxId) (s : State) : (s.setTxid v).sticks = s.sticks := rfl
@[simp] theorem setTxid_params (v : TxId) (s : State) : (s.setTxid v).params = s.params := rfl
@[simp] theorem setTxid_initialised (v : TxId) (s : State) : (s.setTxid v).initialised = s.initialised := rfl
@[simp] theorem setTxid_done (v : TxId) (s : State) : (s.setTxid v).done = s.done := rfl
@[simp] theorem setTxid_trace (v : TxId) (s : State) : (s.setTxid v).trace = s.trace := rfl
@[simp] theorem setTxid_env (v : TxId) (s : State) : (s.setTxid v).env = s.env := rfl
@[simp] theorem setTxid_inputs (v : TxId) (s : State) : (s.setTxid v).inputs = s.inputs := rfl
@[simp] theorem setTxid_result (v : TxId) (s : State) : (s.setTxid v).result = s.result := rfl
@[simp] theorem setTxid_freeReads (v : TxId) (s : State) : (s.setTxid v).freeReads = s.freeReads := rfl

@[simp] theorem setHop_fsm (v : HopTable) (s : State) : (s.setHop v).fsm = s.fsm := rfl
@[simp] theorem setHop_cur (v : HopTable) (s : State) : (s.setHop v).cur = s.cur := rfl
@[simp] theorem setHop_err (v : HopTable) (s : State) : (s.setHop v).err = s.err := rfl
@[simp] theorem setHop_last (v : HopTable) (s : State) : (s.setHop v).last = s.last := rfl
@[simp] theorem setHop_status (v : HopTable) (s : State) : (s.setHop v).status = s.status := rfl
@[simp] theorem setHop_txid (v : HopTable) (s : State) : (s.setHop v).txid = s.txid := rfl
@[simp] theorem setHop_hop (v : HopTable) (s : State) : (s.setHop v).hop = v := rfl
@[simp] theorem setHop_frame (v : HopTable) (s : State) : (s.setHop v).frame = s.frame := rfl
@[simp] theorem setHop_sticks (v : HopTable) (s : State) : (s.setHop v).sticks = s.sticks := rfl
@[simp] theorem setHop_params (v : HopTable) (s : State) : (s.setHop v).params = s.params := rfl
@[simp] theorem setHop_initialised (v : HopTable) (s : State) : (s.setHop v).initialised = s.initialised := rfl
@[simp] theorem setHop_done (v : HopTable) (s : State) : (s.setHop v).done = s.done := rfl
@[simp] theorem setHop_trace (v : HopTable) (s : State) : (s.setHop v).trace = s.trace := rfl
@[simp] theorem setHop_env (v : HopTable) (s : State) : (s.setHop v).env = s.env := rfl
@[simp] theorem setHop_inputs (v : HopTable) (s : State) : (s.setHop v).inputs = s.inputs := rfl
@[simp] theorem setHop_result (v : HopTable) (s : State) : (s.setHop v).result = s.result := rfl
@[simp] theorem setHop_freeReads (v : HopTable) (s : State) : (s.setHop v).freeReads = s.freeReads := rfl

@[simp] theorem setFrame_fsm (v : Frame) (s : State) : (s.setFrame v).fsm = s.fsm := rfl
@[simp] theorem setFrame_cur (v : Frame) (s : State) : (s.setFrame v).cur = s.cur := rfl
@[simp] theorem setFrame_err (v : Frame) (s : State) : (s.setFrame v).err = s.err := rfl
@[simp] theorem setFrame_last (v : Frame) (s : State) : (s.setFrame v).last = s.last := rfl
@[simp] theorem setFrame_status (v : Frame) (s : State) : (s.setFrame v).status = s.status := rfl
@[simp] theorem setFrame_txid (v : Frame) (s : State) : (s.setFrame v).txid = s.txid := rfl
@[simp] theorem setFrame_hop (v : Frame) (s : State) : (s.setFrame v).hop = s.hop := rfl
@[simp] theorem setFrame_frame (v : Frame) (s : State) : (s.setFrame v).frame = v := rfl
@[simp] theorem setFrame_sticks (v : Frame) (s : State) : (s.setFrame v).sticks = s.sticks := rfl
@[simp] theorem setFrame_params (v : Frame) (s : State) : (s.setFrame v).params = s.params := rfl
@[simp] theorem setFrame_initialised (v : Frame) (s : State) : (s.setFrame v).initialised = s.initialised := rfl
@[simp] theorem setFrame_done (v : Frame) (s : State) : (s.setFrame v).done = s.done := rfl
@[simp] theorem setFrame_trace (v : Frame) (s : State) : (s.setFrame v).trace = s.trace := rfl
@[simp] theorem setFrame_env (v : Frame) (s : State) : (s.setFrame v).env = s.env := rfl
@[simp] theorem setFrame_inputs (v : Frame) (s : State) : (s.setFrame v).inputs = s.inputs := rfl
@[simp] theorem setFrame_result (v : Frame) (s : State) : (s.setFrame v).result = s.result := rfl
@[simp] theorem setFrame_freeReads (v : Frame) (s : State) : (s.setFrame v).freeReads = s.freeReads := rfl

@[simp] theorem setSticks_fsm (v : Sticks) (s : State) : (s.setSticks v).fsm = s.fsm := rfl
@[simp] theorem setSticks_cur (v : Sticks) (s : State) : (s.setSticks v).cur = s.cur := rfl
@[simp] theorem setSticks_err (v : Sticks) (s : State) : (s.setSticks v).err = s.err := rfl
@[simp] theorem setSticks_last (v : Sticks) (s : State) : (s.setSticks v).last = s.last := rfl
@[simp] theorem setSticks_status (v : Sticks) (s : State) : (s.setSticks v).status = s.status := rfl
@[simp] theorem setSticks_txid (v : Sticks) (s : State) : (s.setSticks v).txid = s.txid := rfl
@[simp] theorem setSticks_hop (v : Sticks) (s : State) : (s.setSticks v).hop = s.hop := rfl
@[simp] theorem setSticks_frame (v : Sticks) (s : State) : (s.setSticks v).frame = s.frame := rfl
@[simp] theorem setSticks_sticks (v : Sticks) (s : State) : (s.setSticks v).sticks = v := rfl
@[simp] theorem setSticks_params (v : Sticks) (s : State) : (s.setSticks v).params = s.params := rfl
@[simp] theorem setSticks_initialised (v : Sticks) (s : State) : (s.setSticks v).initialised = s.initialised := rfl
@[simp] theorem setSticks_done (v : Sticks) (s : State) : (s.setSticks v).done = s.done := rfl
@[simp] theorem setSticks_trace (v : Sticks) (s : State) : (s.setSticks v).trace = s.trace := rfl
@[simp] theorem setSticks_env (v : Sticks) (s : State) : (s.setSticks v).env = s.env := rfl
@[simp] theorem setSticks_inputs (v : Sticks) (s : State) : (s.setSticks v).inputs = s.inputs := rfl
@[simp] theorem setSticks_result (v : Sticks) (s : State) : (s.setSticks v).result = s.result := rfl
@[simp] theorem setSticks_freeReads (v : Sticks) (s : State) : (s.setSticks v).freeReads = s.freeReads := rfl

@[simp] theorem setInitialised_fsm (v : Bool) (s : State) : (s.setInitialised v).fsm = s.fsm := rfl
@[simp] theorem setInitialised_cur (v : Bool) (s : State) : (s.setInitialised v).cur = s.cur := rfl
@[simp] theorem setInitialised_err (v : Bool) (s : State) : (s.setInitialised v).err = s.err := rfl
@[simp] theorem setInitialised_last (v : Bool) (s : State) : (s.setInitialised v).last = s.last := rfl
@[simp] theorem setInitialised_status (v : Bool) (s : State) : (s.setInitialised v).status = s.status := rfl
@[simp] theorem setInitialised_txid (v : Bool) (s : State) : (s.setInitialised v).txid = s.txid := rfl
@[simp] theorem setInitialised_hop (v : Bool) (s : State) : (s.setInitialised v).hop = s.hop := rfl
@[simp] theorem setInitialised_frame (v : Bool) (s : State) : (s.setInitialised v).frame = s.frame := rfl
@[simp] theorem setInitialised_sticks (v : Bool) (s : State) : (s.setInitialised v).sticks = s.sticks := rfl
@[simp] theorem setInitialised_params (v : Bool) (s : State) : (s.setInitialised v).params = s.params := rfl
@[simp] theorem setInitialised_initialised (v : Bool) (s : State) : (s.setInitialised v).initialised = v := rfl
@[simp] theorem setInitialised_done (v : Bool) (s : State) : (s.setInitialised v).done = s.done := rfl
@[simp] theorem setInitialised_trace (v : Bool) (s : State) : (s.setInitialised v).trace = s.trace := rfl
@[simp] theorem setInitialised_env (v : Bool) (s : State) : (s.setInitialised v).env = s.env := rfl
@[simp] theorem setInitialised_inputs (v : Bool) (s : State) : (s.setInitialised v).inputs = s.inputs := rfl
@[simp] theorem setInitialised_result (v : Bool) (s : State) : (s.setInitialised v).result = s.result := rfl
@[simp] theorem setInitialised_freeReads (v : Bool) (s : State) : (s.setInitialised v).freeReads = s.freeReads := rfl

@[simp] theorem setDone_fsm (v : Bool) (s : State) : (s.setDone v).fsm = s.fsm := rfl
@[simp] theorem setDone_cur (v : Bool) (s : State) : (s.setDone v).cur = s.cur := rfl
@[simp] theorem setDone_err (v : Bool) (s : State) : (s.setDone v).err = s.err := rfl
@[simp] theorem setDone_last (v : Bool) (s : State) : (s.setDone v).last = s.last := rfl
@[simp] theorem setDone_status (v : Bool) (s : State) : (s.setDone v).status = s.status := rfl
@[simp] theorem setDone_txid (v : Bool) (s : State) : (s.setDone v).txid = s.txid := rfl
@[simp] theorem setDone_hop (v : Bool) (s : State) : (s.setDone v).hop = s.hop := rfl
@[simp] theorem setDone_frame (v : Bool) (s : State) : (s.setDone v).frame = s.frame := rfl
@[simp] theorem setDone_sticks (v : Bool) (s : State) : (s.setDone v).sticks = s.sticks := rfl
@[simp] theorem setDone_params (v : Bool) (s : State) : (s.setDone v).params = s.params := rfl
@[simp] theorem setDone_initialised (v : Bool) (s : State) : (s.setDone v).initialised = s.initialised := rfl
@[simp] theorem setDone_done (v : Bool) (s : State) : (s.setDone v).done = v := rfl
@[simp] theorem setDone_trace (v : Bool) (s : State) : (s.setDone v).trace = s.trace := rfl
@[simp] theorem setDone_env (v : Bool) (s : State) : (s.setDone v).env = s.env := rfl
@[simp] theorem setDone_inputs (v : Bool) (s : State) : (s.setDone v).inputs = s.inputs := rfl
@[simp] theorem setDone_result (v : Bool) (s : State) : (s.setDone v).result = s.result := rfl
@[simp] theorem setDone_freeReads (v : Bool) (s : State) : (s.setDone v).freeReads = s.freeReads := rfl

@[simp] theorem setTrace_fsm (v : List TxEvent) (s : State) : (s.setTrace v).fsm = s.fsm := rfl
@[simp] theorem setTrace_cur (v : List TxEvent) (s : State) : (s.setTrace v).cur = s.cur := rfl
@[simp] theorem setTrace_err (v : List TxEvent) (s : State) : (s.setTrace v).err = s.err := rfl
@[simp] theorem setTrace_last (v : List TxEvent) (s : State) : (s.setTrace v).last = s.last := rfl
@[simp] theorem setTrace_status (v : List TxEvent) (s : State) : (s.setTrace v).status = s.status := rfl
@[simp] theorem setTrace_txid (v : List TxEvent) (s : State) : (s.setTrace v).txid = s.txid := rfl
@[simp] theorem setTrace_hop (v : List TxEvent) (s : State) : (s.setTrace v).hop = s.hop := rfl
@[simp] theorem setTrace_frame (v : List TxEvent) (s : State) : (s.setTrace v).frame = s.frame := rfl
@[simp] theorem setTrace_sticks (v : List TxEvent) (s : State) : (s.setTrace v).sticks = s.sticks := rfl
@[simp] theorem setTrace_params (v : List TxEvent) (s : State) : (s.setTrace v).params = s.params := rfl
@[simp] theorem setTrace_initialised (v : List TxEvent) (s : State) : (s.setTrace v).initialised = s.initialised := rfl
@[simp] theorem setTrace_done (v : List TxEvent) (s : State) : (s.setTrace v).done = s.done := rfl
@[simp] theorem setTrace_trace (v : List TxEvent) (s : State) : (s.setTrace v).trace = v := rfl
@[simp] theorem setTrace_env (v : List TxEvent) (s : State) : (s.setTrace v).env = s.env := rfl
@[simp] theorem setTrace_inputs (v : List TxEvent) (s : State) : (s.setTrace v).inputs = s.inputs := rfl
@[simp] theorem setTrace_result (v : List TxEvent) (s : State) : (s.setTrace v).result = s.result := rfl
@[simp] theorem setTrace_freeReads (v : List TxEvent) (s : State) : (s.setTrace v).freeReads = s.freeReads := rfl

@[simp] theorem setEnv_fsm (v : Env) (s : State) : (s.setEnv v).fsm = s.fsm := rfl
@[simp] theorem setEnv_cur (v : Env) (s : State) : (s.setEnv v).cur = s.cur := rfl
@[simp] theorem setEnv_err (v : Env) (s : State) : (s.setEnv v).err = s.err := rfl
@[simp] theorem setEnv_last (v : Env) (s : State) : (s.setEnv v).last = s.last := rfl
@[simp] theorem setEnv_status (v : Env) (s : State) : (s.setEnv v).status = s.status := rfl
@[simp] theorem setEnv_txid (v : Env) (s : State) : (s.setEnv v).txid = s.txid := rfl
@[simp] theorem setEnv_hop (v : Env) (s : State) : (s.setEnv v).hop = s.hop := rfl
@[simp] theorem setEnv_frame (v : Env) (s : State) : (s.setEnv v).frame = s.frame := rfl
@[simp] theorem setEnv_sticks (v : Env) (s : State) : (s.setEnv v).sticks = s.sticks := rfl
@[simp] theorem setEnv_params (v : Env) (s : State) : (s.setEnv v).params = s.params := rfl
@[simp] theorem setEnv_initialised (v : Env) (s : State) : (s.setEnv v).initialised = s.initialised := rfl
@[simp] theorem setEnv_done (v : Env) (s : State) : (s.setEnv v).done = s.done := rfl
@[simp] theorem setEnv_trace (v : Env) (s : State) : (s.setEnv v).trace = s.trace := rfl
@[simp] theorem setEnv_env (v : Env) (s : State) : (s.setEnv v).env = v := rfl
@[simp] theorem setEnv_inputs (v : Env) (s : State) : (s.setEnv v).inputs = s.inputs := rfl
@[simp] theorem setEnv_result (v : Env) (s : State) : (s.setEnv v).result = s.result := rfl
@[simp] theorem setEnv_freeReads (v : Env) (s : State) : (s.setEnv v).freeReads = s.freeReads := rfl

@[simp] theorem setInputs_fsm (v : List HostLine) (s : State) : (s.setInputs v).fsm = s.fsm := rfl
@[simp] theorem setInputs_cur (v : List HostLine) (s : State) : (s.setInputs v).cur = s.cur := rfl
@[simp] theorem setInputs_err (v : List HostLine) (s : State) : (s.setInputs v).err = s.err := rfl
@[simp] theorem setInputs_last (v : List HostLine) (s : State) : (s.setInputs v).last = s.last := rfl
@[simp] theorem setInputs_status (v : List HostLine) (s : State) : (s.setInputs v).status = s.status := rfl
@[simp] theorem setInputs_txid (v : List HostLine) (s : State) : (s.setInputs v).txid = s.txid := rfl
@[simp] theorem setInputs_hop (v : List HostLine) (s : State) : (s.setInputs v).hop = s.hop := rfl
@[simp] theorem setInputs_frame (v : List HostLine) (s : State) : (s.setInputs v).frame = s.frame := rfl
@[simp] theorem setInputs_sticks (v : List HostLine) (s : State) : (s.setInputs v).sticks = s.sticks := rfl
@[simp] theorem setInputs_params (v : List HostLine) (s : State) : (s.setInputs v).params = s.params := rfl
@[simp] theorem setInputs_initialised (v : List HostLine) (s : State) : (s.setInputs v).initialised = s.initialised := rfl
@[simp] theorem setInputs_done (v : List HostLine) (s : State) : (s.setInputs v).done = s.done := rfl
@[simp] theorem setInputs_trace (v : List HostLine) (s : State) : (s.setInputs v).trace = s.trace := rfl
@[simp] theorem setInputs_env (v : List HostLine) (s : State) : (s.setInputs v).env = s.env := rfl
@[simp] theorem setInputs_inputs (v : List HostLine) (s : State) : (s.setInputs v).inputs = v := rfl
@[simp] theorem setInputs_result (v : List HostLine) (s : State) : (s.setInputs v).result = s.result := rfl
@[simp] theorem setInputs_freeReads (v : List HostLine) (s : State) : (s.setInputs v).freeReads = s.freeReads := rfl

@[simp] theorem setResult_fsm (v : OpResult) (s : State) : (s.setResult v).fsm = s.fsm := rfl
@[simp] theorem setResult_cur (v : OpResult) (s : State) : (s.setResult v).cur = s.cur := rfl
@[simp] theorem setResult_err (v : OpResult) (s : State) : (s.setResult v).err = s.err := rfl
@[simp] theorem setResult_last (v : OpResult) (s : State) : (s.setResult v).last = s.last := rfl
@[simp] theorem setResult_status (v : OpResult) (s : State) : (s.setResult v).status = s.status := rfl
@[simp] theorem setResult_txid (v : OpResult) (s : State) : (s.setResult v).txid = s.txid := rfl
@[simp] theorem setResult_hop (v : OpResult) (s : State) : (s.setResult v).hop = s.hop := rfl
@[simp] theorem setResult_frame (v : OpResult) (s : State) : (s.setResult v).frame = s.frame := rfl
@[simp] theorem setResult_sticks (v : OpResult) (s : State) : (s.setResult v).sticks = s.sticks := rfl
@[simp] theorem setResult_params (v : OpResult) (s : State) : (s.setResult v).params = s.params := rfl
@[simp] theorem setResult_initialised (v : OpResult) (s : State) : (s.setResult v).initialised = s.initialised := rfl
@[simp] theorem setResult_done (v : OpResult) (s : State) : (s.setResult v).done = s.done := rfl
@[simp] theorem setResult_trace (v : OpResult) (s : State) : (s.setResult v).trace = s.trace := rfl
@[simp] theorem setResult_env (v : OpResult) (s : State) : (s.setResult v).env = s.env := rfl
@[simp] theorem setResult_inputs (v : OpResult) (s : State) : (s.setResult v).inputs = s.inputs := rfl
@[simp] theorem setResult_result (v : OpResult) (s : State) : (s.setResult v).result = v := rfl
@[simp] theorem setResult_freeReads (v : OpResult) (s : State) : (s.setResult v).freeReads = s.freeReads := rfl

@[simp] theorem setFreeReads_fsm (v : Nat) (s : State) : (s.setFreeReads v).fsm = s.fsm := rfl
@[simp] theorem setFreeReads_cur (v : Nat) (s : State) : (s.setFreeReads v).cur = s.cur := rfl
@[simp] theorem setFreeReads_err (v : Nat) (s : State) : (s.setFreeReads v).err = s.err := rfl
@[simp] theorem setFreeReads_last (v : Nat) (s : State) : (s.setFreeReads v).last = s.last := rfl
@[simp] theorem setFreeReads_status (v : Nat) (s : State) : (s.setFreeReads v).status = s.status := rfl
@[simp] theorem setFreeReads_txid (v : Nat) (s : State) : (s.setFreeReads v).txid = s.txid := rfl
@[simp] theorem setFreeReads_hop (v : Nat) (s : State) : (s.setFreeReads v).hop = s.hop := rfl
@[simp] theorem setFreeReads_frame (v : Nat) (s : State) : (s.setFreeReads v).frame = s.frame := rfl
@[simp] theorem setFreeReads_sticks (v : Nat) (s : State) : (s.setFreeReads v).sticks = s.sticks := rfl
@[simp] theorem setFreeReads_params (v : Nat) (s : State) : (s.setFreeReads v).params = s.params := rfl
@[simp] theorem setFreeReads_initialised (v : Nat) (s : State) : (s.setFreeReads v).initialised = s.initialised := rfl
@[simp] theorem setFreeReads_done (v : Nat) (s : State) : (s.setFreeReads v).done = s.done := rfl
@[simp] theorem setFreeReads_trace (v : Nat) (s : State) : (s.setFreeReads v).trace = s.trace := rfl
@[simp] theorem setFreeReads_env (v : Nat) (s : State) : (s.setFreeReads v).env = s.env := rfl
@[simp] theorem setFreeReads_inputs (v : Nat) (s : State) : (s.setFreeReads v).inputs = s.inputs := rfl
@[simp] theorem setFreeReads_result (v : Nat) (s : State) : (s.setFreeReads v).result = s.result := rfl
@[simp] theorem setFreeReads_freeReads (v : Nat) (s : State) : (s.setFreeReads v).freeReads = v := rfl

@[simp] theorem issue_fsm (v : TxEvent) (s : State) : (s.issue v).fsm = s.fsm := rfl
@[simp] theorem issue_cur (v : TxEvent) (s : State) : (s.issue v).cur = s.cur := rfl
@[simp] theorem issue_err (v : TxEvent) (s : State) : (s.issue v).err = s.err := rfl
@[simp] theorem issue_last (v : TxEvent) (s : State) : (s.issue v).last = s.last := rfl
@[simp] theorem issue_status (v : TxEvent) (s : State) : (s.issue v).status = s.status := rfl
@[simp] theorem issue_txid (v : TxEvent) (s : State) : (s.issue v).txid = s.txid := rfl
@[simp] theorem issue_hop (v : TxEvent) (s : State) : (s.issue v).hop = s.hop := rfl
@[simp] theorem issue_frame (v : TxEvent) (s : State) : (s.issue v).frame = s.frame := rfl
@[simp] theorem issue_sticks (v : TxEvent) (s : State) : (s.issue v).sticks = s.sticks := rfl
@[simp] theorem issue_params (v : TxEvent) (s : State) : (s.issue v).params = s.params := rfl
@[simp] theorem issue_initialised (v : TxEvent) (s : State) : (s.issue v).initialised = s.initialised := rfl
@[simp] theorem issue_done (v : TxEvent) (s : State) : (s.issue v).done = s.done := rfl
@[simp] theorem issue_trace (v : TxEvent) (s : State) : (s.issue v).trace = s.trace ++ [v] := rfl
@[simp] theorem issue_env (v : TxEvent) (s : State) : (s.issue v).env = s.env := rfl
@[simp] theorem issue_inputs (v : TxEvent) (s : State) : (s.issue v).inputs = s.inputs := rfl
@[simp] theorem issue_result (v : TxEvent) (s : State) : (s.issue v).result = s.result := rfl
@[simp] theorem issue_freeReads (v : TxEvent) (s : State) : (s.issue v).freeReads = s.freeReads := rfl

/-- `PROBE` depends on the constants only. -/
theorem probe_eq (s : State) : s.probe = probegen s.params := rfl

end Sys2Proof.Machine.State
end

