-- ==== Sys2Proof/Laws/Ops.lean ====
section
/-! SUPPORT. One specification lemma per shared operation: what it leaves, written as one record update, so that a proof
cites it and never unfolds the operation. Among them the drain loop (R139) in list form, which is the whole story of a
receive case. -/

namespace Sys2Proof.Machine

/-! ### Transport commands -/

theorem txCfgrx_eq (ch : Byte) (s : State) : txCfgrx ch s =
    { s with env := { s.env with radioCh := ch, receiving := true }, trace := s.trace ++ [.cfgrx ch] } := rfl

theorem txSetch_eq (ch : Byte) (s : State) : txSetch ch s =
    { s with env := { s.env with radioCh := ch }, trace := s.trace ++ [.setch ch] } := rfl

theorem txClrf_eq (s : State) : txClrf s =
    { s with env := { s.env with rxPending := false }, trace := s.trace ++ [.clrf] } := rfl

theorem txFlushrx_eq (s : State) : txFlushrx s =
    { s with env := { s.env with rxFifo := [] }, trace := s.trace ++ [.flushrx] } := rfl

/-- T_READ on a FIFO that holds a payload (R275). -/
theorem txRead_of_cons {f : Frame} {rest : List Frame} {s : State} (h : s.env.rxFifo = f :: rest) : txRead s =
    { s with frame := f, env := { s.env with rxFifo := rest }, trace := s.trace ++ [.read f] } := by
  simp [txRead, h, State.issue, State.setEnv, State.setFrame, State.setTrace]

/-! ### ADV and CAPTURE -/

theorem adv_probe_eq (s : State) : adv .probe s =
    { s with
      cur := nextCursor .probe s.cur
      env := { s.env with radioCh := channelAt .probe (nextCursor .probe s.cur) s }
      trace := s.trace ++ [.setch (channelAt .probe (nextCursor .probe s.cur) s)] } := rfl

theorem adv_hop_eq (s : State) : adv .hop s =
    { s with
      cur := nextCursor .hop s.cur
      env := { s.env with radioCh := channelAt .hop (nextCursor .hop s.cur) s }
      trace := s.trace ++ [.setch (channelAt .hop (nextCursor .hop s.cur) s)] } := rfl

/-- The next cursor over PROBE is below 8. -/
theorem nextCursor_probe_toNat (c : Cursor) : (nextCursor .probe c).toNat = (c.toNat + 1) % 8 := by
  simp only [nextCursor, tableLen, Config.nProbe, BitVec.toNat_ofNat]
  omega

theorem nextCursor_hop_toNat (c : Cursor) : (nextCursor .hop c).toNat = (c.toNat + 1) % 16 := by
  simp only [nextCursor, tableLen, Config.nHop, BitVec.toNat_ofNat]
  omega

theorem capture_eq (now : Tick) (s : State) : capture now s =
    { s with
      txid := frameId s.frame
      hop := deriveId s.params.hopBase (frameId s.frame)
      cur := 0
      env := { s.env with radioCh := (deriveId s.params.hopBase (frameId s.frame))[0], rxFifo := [] }
      trace := s.trace ++ [.setch (deriveId s.params.hopBase (frameId s.frame))[0], .flushrx]
      last := now
      fsm := .waitFirstSynchro } := by
  simp [capture, txFlushrx, txSetch, State.issue, State.setEnv, State.setTrace, State.setTxid, State.setHop,
    State.setCur, State.setLast, State.setFsm]

/-! ### The drain loop -/

/-- The payloads the loop may still read. -/
def allowed (left : Option Nat) (fifo : List Frame) : List Frame :=
  match left with
  | none => fifo
  | some k => fifo.take k

/-- The loop will end at its bound. -/
def hits (left : Option Nat) (fifo : List Frame) : Bool :=
  match left with
  | none => false
  | some k => decide (k ≤ fifo.length)

/-- The state after the loop has read all the allowed payloads, with no effect of their own. -/
def readAll (left : Option Nat) (s : State) : State :=
  { s with
    frame := (allowed left s.env.rxFifo).getLastD s.frame
    env := { s.env with rxFifo := s.env.rxFifo.drop (allowed left s.env.rxFifo).length }
    trace := s.trace ++ ((allowed left s.env.rxFifo).flatMap readEvents ++ closing (hits left s.env.rxFifo)) }

/-- The state after one iteration's T_EMPTY(0) and T_READ. -/
def readOne (f : Frame) (rest : List Frame) (s : State) : State :=
  { s with frame := f, env := { s.env with rxFifo := rest }, trace := s.trace ++ readEvents f }

@[simp] theorem readOne_frame (f : Frame) (rest : List Frame) (s : State) : (readOne f rest s).frame = f := rfl
@[simp] theorem readOne_txid (f : Frame) (rest : List Frame) (s : State) : (readOne f rest s).txid = s.txid := rfl
@[simp] theorem readOne_fifo (f : Frame) (rest : List Frame) (s : State) : (readOne f rest s).env.rxFifo = rest := rfl

@[simp] theorem allowed_zero (fifo : List Frame) : allowed (some 0) fifo = [] := by simp [allowed]

@[simp] theorem allowed_nil (left : Option Nat) : allowed left [] = [] := by cases left <;> simp [allowed]

theorem allowed_cons {left : Option Nat} (h : left ≠ some 0) (f : Frame) (rest : List Frame) :
    allowed left (f :: rest) = f :: allowed (left.map (· - 1)) rest := by
  match left, h with
  | none, _ => rfl
  | some (k + 1), _ => simp [allowed]

theorem hits_nil {left : Option Nat} (h : left ≠ some 0) : hits left [] = false := by
  match left, h with
  | none, _ => rfl
  | some (k + 1), _ => simp [hits]

theorem hits_cons {left : Option Nat} (h : left ≠ some 0) (f : Frame) (rest : List Frame) :
    hits left (f :: rest) = hits (left.map (· - 1)) rest := by
  match left, h with
  | none, _ => rfl
  | some (k + 1), _ => simp [hits]

theorem readAll_zero (s : State) : readAll (some 0) s = s := by
  simp [readAll, allowed, hits, closing]

theorem env_with_nil {e : Env} (h : e.rxFifo = []) : { e with rxFifo := [] } = e := by
  cases e; simp_all

theorem readAll_nil {left : Option Nat} (h : left ≠ some 0) {s : State} (hs : s.env.rxFifo = []) :
    readAll left s = s.issue (.empty true) := by
  simp [readAll, State.issue, State.setTrace, hs, hits_nil h, closing, env_with_nil]

theorem readAll_cons {left : Option Nat} (h : left ≠ some 0) {f : Frame} {rest : List Frame} {s : State}
    (hs : s.env.rxFifo = f :: rest) : readAll left s = readAll (left.map (· - 1)) (readOne f rest s) := by
  simp only [readAll, readOne, hs, allowed_cons h, hits_cons h, List.getLastD_cons, List.length_cons,
    List.drop_succ_cons, List.flatMap_cons, List.append_assoc]

/-- One iteration of the loop: ended by an empty FIFO, left by the body, or one payload read and on. -/
theorem drainLoop_succ (body : Pass → State → Pass × State × Bool) (fuel : Nat) (left : Option Nat) (p : Pass)
    (s : State) (h : left ≠ some 0) : drainLoop body (fuel + 1) left p s =
      match s.env.rxFifo with
      | [] => (p, s.issue (.empty true))
      | f :: rest =>
        match body p (readOne f rest s) with
        | (p2, s2, true) => (p2, s2)
        | (p2, s2, false) => drainLoop body fuel (left.map (· - 1)) p2 s2 := by
  rw [drainLoop, if_neg h]
  cases hs : s.env.rxFifo with
  | nil => simp [txEmpty, hs]
  | cons f rest =>
    have hr : txRead (s.issue (.empty false)) = readOne f rest s := by
      rw [txRead_of_cons (f := f) (rest := rest) (by simpa using hs)]
      simp [readOne, readEvents, State.issue, State.setTrace]
    have he : txEmpty s = (false, s.issue (.empty false)) := by simp [txEmpty, hs]
    rw [he]
    exact (congrArg (fun u => match body p u with
      | (p2, s2, true) => (p2, s2)
      | (p2, s2, false) => drainLoop body fuel (left.map (· - 1)) p2 s2) hr)

theorem drainLoop_zero (body : Pass → State → Pass × State × Bool) (fuel : Nat) (p : Pass) (s : State) :
    drainLoop body fuel (some 0) p s = (p, s) := by
  cases fuel <;> simp [drainLoop]

/-- The drain of WS_RX reads everything and remembers whether some payload passed the checksum. -/
theorem drainLoop_ws (fuel : Nat) (left : Option Nat) (p : Pass) (s : State) (hf : s.env.rxFifo.length < fuel) :
    drainLoop wsBody fuel left p s =
      ({ p with got := p.got || (allowed left s.env.rxFifo).any crcchk }, readAll left s) := by
  induction fuel generalizing left p s with
  | zero => omega
  | succ n ih =>
    by_cases h : left = some 0
    · subst h; simp [drainLoop_zero, readAll_zero]
    · rw [drainLoop_succ _ _ _ _ _ h]
      cases hs : s.env.rxFifo with
      | nil => simp [readAll_nil h hs]
      | cons f rest =>
        have hl : (readOne f rest s).env.rxFifo.length < n := by simp [readOne]; simp [hs] at hf; omega
        have hb : wsBody p (readOne f rest s) = ({ p with got := p.got || crcchk f }, readOne f rest s, false) := by
          by_cases hc : crcchk f <;> simp [wsBody, readOne, hc]
        rw [readAll_cons h hs, allowed_cons h]
        simp only [hb, ih _ _ _ hl, List.any_cons, Bool.or_assoc]
        rfl

/-- The registers BD_RX may write while draining `frames`: `ERR` on any accepted frame, the sticks on the last accepted
one of class DATA. -/
def bdWrites (frames : List Frame) (txid : TxId) (s : State) : State :=
  { s with
    err := if (frames.any fun f => crcchk f && idmatch f txid) then 0 else s.err
    sticks := ((frames.filter fun f => (crcchk f && idmatch f txid) && fclass f == .data).map sticksOf).getLastD s.sticks }

/-- What BD_RX's locals hold after draining `frames`. -/
def bdPass (frames : List Frame) (txid : TxId) (p : Pass) : Pass where
  got := p.got || frames.any fun f => crcchk f && idmatch f txid
  status := if (frames.any fun f => (crcchk f && idmatch f txid) && fclass f == .data) then .boundNewValues else p.status

theorem drainLoop_bd (fuel : Nat) (left : Option Nat) (p : Pass) (s : State) (hf : s.env.rxFifo.length < fuel) :
    drainLoop bdBody fuel left p s =
      (bdPass (allowed left s.env.rxFifo) s.txid p, bdWrites (allowed left s.env.rxFifo) s.txid (readAll left s)) := by
  induction fuel generalizing left p s with
  | zero => omega
  | succ n ih =>
    by_cases h : left = some 0
    · subst h; simp [drainLoop_zero, readAll_zero, bdPass, bdWrites]
    · rw [drainLoop_succ _ _ _ _ _ h]
      cases hs : s.env.rxFifo with
      | nil => simp [readAll_nil h hs, bdPass, bdWrites, State.issue, State.setTrace]
      | cons f rest =>
        have hl : (readOne f rest s).env.rxFifo.length < n := by simp [readOne]; simp [hs] at hf; omega
        rw [readAll_cons h hs, allowed_cons h]
        by_cases ha : (crcchk f && idmatch f s.txid) = true
        · by_cases hd : fclass f = .data
          · have hb : bdBody p (readOne f rest s)
                = (⟨true, .boundNewValues⟩, sdecode f ((readOne f rest s).setErr 0), false) := by
              rw [bdBody, readOne_frame, readOne_txid, if_pos ha, if_pos hd]
            simp only [hb]
            rw [ih _ _ _ (by simpa [sdecode] using hl)]
            simp [bdPass, bdWrites, ha, hd, readAll, readOne, sdecode, State.setErr, State.setSticks, -List.getLastD_eq_getLast?, List.getLastD_cons]
          · have hb : bdBody p (readOne f rest s) = ({ p with got := true }, (readOne f rest s).setErr 0, false) := by
              rw [bdBody, readOne_frame, readOne_txid, if_pos ha, if_neg hd]
            simp only [hb]
            rw [ih _ _ _ (by simpa using hl)]
            simp [bdPass, bdWrites, ha, hd, readAll, readOne, State.setErr]
        · have hb : bdBody p (readOne f rest s) = (p, readOne f rest s, false) := by
            rw [bdBody, readOne_frame, readOne_txid, if_neg ha]
          simp only [hb]
          rw [ih _ _ _ hl]
          simp [bdPass, bdWrites, ha, readAll, readOne]

/-! ### The drain of NB_RX -/

theorem nbBody_of_not_bindable (now : Tick) (p : Pass) {s : State} (h : bindable s.frame = false) :
    nbBody now p s = (p, s, false) := by
  rw [nbBody, if_neg (by simpa [bindable] using h)]

theorem nbBody_of_bindable (now : Tick) (p : Pass) {s : State} (h : bindable s.frame = true) :
    nbBody now p s = (⟨true, .bindInProgress⟩, capture now s, true) := by
  rw [nbBody, if_pos (by simpa [bindable] using h)]

/-- No acceptable bind frame among the payloads: they are read and nothing else happens (R164 (c)). -/
theorem drainLoop_nb_none (now : Tick) (fuel : Nat) (left : Option Nat) (p : Pass) (s : State)
    (hf : s.env.rxFifo.length < fuel) (hn : ∀ f ∈ allowed left s.env.rxFifo, bindable f = false) :
    drainLoop (nbBody now) fuel left p s = (p, readAll left s) := by
  induction fuel generalizing left s with
  | zero => omega
  | succ n ih =>
    by_cases h : left = some 0
    · subst h; simp [drainLoop_zero, readAll_zero]
    · rw [drainLoop_succ _ _ _ _ _ h]
      cases hs : s.env.rxFifo with
      | nil => simp [readAll_nil h hs]
      | cons f rest =>
        rw [hs, allowed_cons h] at hn
        have hl : (readOne f rest s).env.rxFifo.length < n := by simp; simp [hs] at hf; omega
        have hb := nbBody_of_not_bindable now p (s := readOne f rest s) (hn f (by simp))
        rw [readAll_cons h hs]
        simp only [hb]
        exact ih _ _ hl fun g hg => hn g (List.mem_cons_of_mem _ hg)

/-- The first acceptable bind frame is captured; the payloads before it were read, those after it were not (R164 (b)). -/
theorem drainLoop_nb_some (now : Tick) (fuel : Nat) (left : Option Nat) (p : Pass) (s : State) (pre : List Frame)
    (f : Frame) (post : List Frame) (hf : s.env.rxFifo.length < fuel)
    (ha : allowed left s.env.rxFifo = pre ++ f :: post) (hpre : ∀ g ∈ pre, bindable g = false)
    (hb : bindable f = true) :
    drainLoop (nbBody now) fuel left p s = (⟨true, .bindInProgress⟩, capture now { s with
      frame := f
      env := { s.env with rxFifo := s.env.rxFifo.drop (pre.length + 1) }
      trace := s.trace ++ (pre.flatMap readEvents ++ readEvents f) }) := by
  induction fuel generalizing left s pre with
  | zero => omega
  | succ n ih =>
    by_cases h : left = some 0
    · subst h; simp at ha
    · rw [drainLoop_succ _ _ _ _ _ h]
      cases hs : s.env.rxFifo with
      | nil => simp [hs] at ha
      | cons g rest =>
        have hl : (readOne g rest s).env.rxFifo.length < n := by simp; simp [hs] at hf; omega
        rw [hs, allowed_cons h] at ha
        cases pre with
        | nil =>
          obtain ⟨rfl, -⟩ : g = f ∧ _ := by simpa using ha
          simp only [nbBody_of_bindable now p (s := readOne g rest s) hb]
          simp [readOne]
        | cons g' pre =>
          obtain ⟨rfl, ha'⟩ : g = g' ∧ _ := by simpa using ha
          simp only [nbBody_of_not_bindable now p (s := readOne g rest s) (hpre g (by simp))]
          rw [ih _ _ pre hl ha' fun k hk => hpre k (List.mem_cons_of_mem _ hk)]
          simp [readOne]

/-! ### Whole receive cases -/

theorem allowed_eq_readable (s : State) : allowed s.params.drainMax s.env.rxFifo = readable s := by
  unfold allowed readable; cases s.params.drainMax <;> rfl

theorem hits_eq_limitHit (s : State) : hits s.params.drainMax s.env.rxFifo = limitHit s := by
  unfold hits limitHit; cases s.params.drainMax <;> rfl

theorem readAll_clrf (s : State) : readAll s.params.drainMax (txClrf s) = afterPass s := by
  have h1 : allowed s.params.drainMax (txClrf s).env.rxFifo = readable s := allowed_eq_readable s
  have h2 : hits s.params.drainMax (txClrf s).env.rxFifo = limitHit s := hits_eq_limitHit s
  simp only [readAll, h1, h2]
  simp [txClrf_eq, afterPass, passTrace]

/-- The whole drain of WS_RX. -/
theorem drain_ws (p : Pass) (s : State) :
    drain wsBody p s = ({ p with got := p.got || (readable s).any crcchk }, afterPass s) := by
  rw [drain, drainLoop_ws _ _ _ _ (by simp [txClrf_eq]), readAll_clrf, ← allowed_eq_readable]
  rfl

/-- The whole drain of BD_RX. -/
theorem drain_bd (p : Pass) (s : State) :
    drain bdBody p s = (bdPass (readable s) s.txid p, bdWrites (readable s) s.txid (afterPass s)) := by
  rw [drain, drainLoop_bd _ _ _ _ (by simp [txClrf_eq]), readAll_clrf, ← allowed_eq_readable]
  rfl

/-- The whole drain of NB_RX when nothing is captured. -/
theorem drain_nb_none (now : Tick) (p : Pass) (s : State) (h : ∀ f ∈ readable s, bindable f = false) :
    drain (nbBody now) p s = (p, afterPass s) := by
  rw [drain, drainLoop_nb_none _ _ _ _ _ (by simp [txClrf_eq]) _, readAll_clrf]
  intro f hf
  exact h f (by rw [← allowed_eq_readable]; exact hf)

/-- The whole drain of NB_RX when `f` is captured. -/
theorem drain_nb_some (now : Tick) (p : Pass) (s : State) (pre : List Frame) (f : Frame) (post : List Frame)
    (ha : readable s = pre ++ f :: post) (hpre : ∀ g ∈ pre, bindable g = false) (hb : bindable f = true) :
    drain (nbBody now) p s = (⟨true, .bindInProgress⟩, capture now { s with
      frame := f
      env := { s.env with rxPending := false, rxFifo := s.env.rxFifo.drop (pre.length + 1) }
      trace := s.trace ++ (.clrf :: (pre.flatMap readEvents ++ readEvents f)) }) := by
  have ha' : allowed s.params.drainMax (txClrf s).env.rxFifo = pre ++ f :: post := (allowed_eq_readable s).trans ha
  rw [drain, drainLoop_nb_some now _ _ _ _ pre f post (by simp [txClrf_eq]) ha' hpre hb]
  simp [txClrf_eq]

end Sys2Proof.Machine
end

