-- ==== Sys2Proof/Laws/PerInstr.lean ====
section
/-! SUPPORT. Statements made of every operation, one lemma per constructor. EncodeFits: an operation's word has the
operation's format and no bit above it (R90), and an operation has a word exactly when its row is not of format FUNC
(R113). -/

namespace Sys2Proof.Laws.EncodeFits

def Statement (i : Instr) : Prop :=
  (∀ w, encode i = some w → w.fmt = i.format ∧ w.wf = true) ∧ (encode i = none ↔ i.format = .func)

/-- An operation with a word. -/
theorem of_word {i : Instr} {w : OpWord} (h : encode i = some w) (hf : w.fmt = i.format) (hw : w.wf = true)
    (hn : i.format ≠ .func) : Statement i :=
  ⟨fun v hv => by rw [h] at hv; cases hv; exact ⟨hf, hw⟩, by simp [h, hn]⟩

/-- An operation with none. -/
theorem of_none {i : Instr} (h : encode i = none) (hn : i.format = .func) : Statement i :=
  ⟨fun v hv => (by rw [h] at hv; cases hv), by simp [h, hn]⟩

theorem tcmd_wf (c : BitVec 3) (a : Byte) : OpWord.wf ⟨.tcmd, (tcmdWord c a).toNat⟩ = true :=
  decide_eq_true (tcmdWord c a).isLt

theorem frame_wf (b : FrameBody) (m : Byte) : OpWord.wf ⟨.frame, (frameWord b m).toNat⟩ = true :=
  decide_eq_true (frameWord b m).isLt

theorem init : Statement .init := of_word rfl rfl (by decide) (fun h => by cases h)
theorem step : Statement .step := of_word rfl rfl (by decide) (fun h => by cases h)
theorem nbHunt : Statement .nbHunt := of_word rfl rfl (by decide) (fun h => by cases h)
theorem nbRx : Statement .nbRx := of_word rfl rfl (by decide) (fun h => by cases h)
theorem wsIdle : Statement .wsIdle := of_word rfl rfl (by decide) (fun h => by cases h)
theorem wsRx : Statement .wsRx := of_word rfl rfl (by decide) (fun h => by cases h)
theorem bdHunt : Statement .bdHunt := of_word rfl rfl (by decide) (fun h => by cases h)
theorem bdRx : Statement .bdRx := of_word rfl rfl (by decide) (fun h => by cases h)
theorem slNop : Statement .slNop := of_word rfl rfl (by decide) (fun h => by cases h)
theorem tCfgrx (ch : Byte) : Statement (.tCfgrx ch) := of_word rfl rfl (tcmd_wf _ _) (fun h => by cases h)
theorem tSetch (ch : Byte) : Statement (.tSetch ch) := of_word rfl rfl (tcmd_wf _ _) (fun h => by cases h)
theorem tPoll : Statement .tPoll := of_word rfl rfl (tcmd_wf _ _) (fun h => by cases h)
theorem tClrf : Statement .tClrf := of_word rfl rfl (tcmd_wf _ _) (fun h => by cases h)
theorem tEmpty : Statement .tEmpty := of_word rfl rfl (tcmd_wf _ _) (fun h => by cases h)
theorem tRead : Statement .tRead := of_word rfl rfl (tcmd_wf _ _) (fun h => by cases h)
theorem tFlushrx : Statement .tFlushrx := of_word rfl rfl (tcmd_wf _ _) (fun h => by cases h)
theorem tFlushtx : Statement .tFlushtx := of_word rfl rfl (tcmd_wf _ _) (fun h => by cases h)
theorem bind (b : FrameBody) : Statement (.bind b) := of_word rfl rfl (frame_wf _ _) (fun h => by cases h)
theorem data (b : FrameBody) (m : Byte) : Statement (.data b m) := of_word rfl rfl (frame_wf _ _) (fun h => by cases h)
theorem avoid16 (v : Byte) : Statement (.avoid16 v) := of_none rfl rfl
theorem derive (t0 t1 t2 : Byte) : Statement (.derive t0 t1 t2) := of_none rfl rfl
theorem probegen : Statement .probegen := of_none rfl rfl
theorem crcchk (f : Frame) : Statement (.crcchk f) := of_none rfl rfl
theorem idmatch (f : Frame) (t : TxId) : Statement (.idmatch f t) := of_none rfl rfl
theorem fclass (f : Frame) : Statement (.fclass f) := of_none rfl rfl
theorem stkdec (b : Byte) : Statement (.stkdec b) := of_none rfl rfl
theorem trimdec (b : Byte) : Statement (.trimdec b) := of_none rfl rfl
theorem sdecode (f : Frame) : Statement (.sdecode f) := of_none rfl rfl
theorem elapsed (n l : Tick) : Statement (.elapsed n l) := of_none rfl rfl
theorem adv (n : AdvTable) : Statement (.adv n) := of_none rfl rfl

end Sys2Proof.Laws.EncodeFits
end

