-- ==== Sys2Proof/Laws/StepCases.lean ====
section
/-! SUPPORT. What a step case, and so a STEP, can do, said once: the inversion lemmas `stepCase_outcome` and
`execStep_outcome`, from which every rule about all steps follows by cases. -/

namespace Sys2Proof.Machine

/-! ### The locals of BD_RX in the terms of the statements -/

theorem bdWrites_readable (s : State) : bdWrites (readable s) s.txid (afterPass s) =
    { afterPass s with
      err := if boundAccepted s = [] then s.err else 0
      sticks := ((boundData s).map sticksOf).getLastD s.sticks } := by
  have h1 : ((readable s).any fun f => crcchk f && idmatch f s.txid) = decide (boundAccepted s ≠ []) := by
    rw [Bool.eq_iff_iff]; simp [boundAccepted]
  have h2 : (readable s).filter (fun f => (crcchk f && idmatch f s.txid) && fclass f == .data) = boundData s := by
    simp only [boundData, boundAccepted, List.filter_filter]; congr 1; funext f; rw [Bool.and_comm]
  simp only [bdWrites, h1, h2]
  by_cases h : boundAccepted s = [] <;> simp [h, afterPass]

theorem bdPass_readable (s : State) (p : Pass) : bdPass (readable s) s.txid p =
    ⟨p.got || decide (boundAccepted s ≠ []), if boundData s = [] then p.status else .boundNewValues⟩ := by
  have h1 : ((readable s).any fun f => crcchk f && idmatch f s.txid) = decide (boundAccepted s ≠ []) := by
    rw [Bool.eq_iff_iff]; simp [boundAccepted]
  have h2 : ((readable s).any fun f => (crcchk f && idmatch f s.txid) && fclass f == .data)
      = decide (boundData s ≠ []) := by
    rw [Bool.eq_iff_iff]; simp [boundData, boundAccepted]; tauto
  simp only [bdPass, h1, h2]
  by_cases h : boundData s = [] <;> simp [h]

/-- A list of payloads has a first acceptable bind frame or none. -/
theorem first_bindable (l : List Frame) : (∀ g ∈ l, bindable g = false) ∨
    ∃ pre f post, l = pre ++ f :: post ∧ (∀ g ∈ pre, bindable g = false) ∧ bindable f = true := by
  induction l with
  | nil => exact .inl (by simp)
  | cons a l ih =>
    by_cases h : bindable a = true
    · exact .inr ⟨[], a, l, rfl, by simp, h⟩
    · have h' : bindable a = false := by simpa using h
      rcases ih with ih | ⟨pre, f, post, rfl, h1, h2⟩
      · exact .inl (by simpa [h'] using ih)
      · exact .inr ⟨a :: pre, f, post, rfl, by simpa [h'] using h1, h2⟩

/-! ### What a step case can do -/

/-- The state in which NB_RX runs CAPTURE, having read `pre` and then `f`. -/
def afterFirstBind (pre : List Frame) (f : Frame) (s : State) : State :=
  { s with
    frame := f
    env := { s.env with rxPending := false, rxFifo := s.env.rxFifo.drop (pre.length + 1) }
    trace := s.trace ++ (.clrf :: (pre.flatMap readEvents ++ readEvents f)) }

/-- The status and the state a step case can end in, by state and pending flag. -/
inductive CaseOutcome (s : State) : FsmState → Bool → Status × State → Prop
  | nbStays (h : probeFires s.params.probeCmpStrict (elapsed s.env.now s.last) = false) :
      CaseOutcome s .noBind false (.notBound, s)
  | nbAdvances (h : probeFires s.params.probeCmpStrict (elapsed s.env.now s.last) = true) :
      CaseOutcome s .noBind false (.notBound, (adv .probe s).setLast s.env.now)
  | nbDiscards (h : ∀ g ∈ readable s, bindable g = false) :
      CaseOutcome s .noBind true (.notBound, afterPass s)
  | nbCaptures (pre : List Frame) (f : Frame) (post : List Frame) (h : readable s = pre ++ f :: post)
      (hpre : ∀ g ∈ pre, bindable g = false) (hf : bindable f = true) :
      CaseOutcome s .noBind true (.bindInProgress, capture s.env.now (afterFirstBind pre f s))
  | wsStays : CaseOutcome s .waitFirstSynchro false (.bindInProgress, s)
  | wsDiscards (h : (readable s).any crcchk = false) :
      CaseOutcome s .waitFirstSynchro true (.bindInProgress, afterPass s)
  | wsSynchronises (h : (readable s).any crcchk = true) :
      CaseOutcome s .waitFirstSynchro true
        (.bindInProgress, (adv .hop ((afterPass s).setLast s.env.now)).setFsm .bound)
  | bdStays (h1 : nudgeFires s.err (elapsed s.env.now s.last) = false)
      (h2 : huntFires s.err (elapsed s.env.now s.last) = false) : CaseOutcome s .bound false (.boundNoValues, s)
  | bdNudges (he : s.err = 0) (h : nudgeFires s.err (elapsed s.env.now s.last) = true) :
      CaseOutcome s .bound false (.boundNoValues, adv .hop ((s.setErr 1).setLast s.env.now))
  | bdHunts (h1 : nudgeFires s.err (elapsed s.env.now s.last) = false)
      (h2 : huntFires s.err (elapsed s.env.now s.last) = true) :
      CaseOutcome s .bound false (.boundNoValues, (adv .hop s).setLast s.env.now)
  | bdDiscards (h : boundAccepted s = []) : CaseOutcome s .bound true (.boundNoValues, afterPass s)
  | bdAccepts (h : boundAccepted s ≠ []) :
      CaseOutcome s .bound true (if boundData s = [] then .boundNoValues else .boundNewValues,
        (adv .hop { afterPass s with err := 0, sticks := ((boundData s).map sticksOf).getLastD s.sticks }).setLast
          s.env.now)
  | slNothing (p : Bool) : CaseOutcome s .signalLost p (.bindInProgress, s)

theorem stepCase_outcome (s : State) (st : FsmState) (p : Bool) :
    CaseOutcome s st p (stepCase st p s.env.now s) := by
  cases st <;> cases p <;> simp only [stepCase]
  · unfold nbHunt
    split
    · exact .nbAdvances ‹_›
    · rename_i h; exact .nbStays (by simpa using h)
  · rcases first_bindable (readable s) with h | ⟨pre, f, post, h, hp, hb⟩
    · simp only [nbRx, drain_nb_none _ _ _ h]; exact .nbDiscards h
    · simp only [nbRx, drain_nb_some _ _ _ _ _ _ h hp hb]; exact .nbCaptures pre f post h hp hb
  · exact .wsStays
  · cases h : (readable s).any crcchk
    · simp only [wsRx, drain_ws, h, wsFinish]; exact .wsDiscards h
    · simp only [wsRx, drain_ws, h, wsFinish]; exact .wsSynchronises h
  · unfold bdHunt
    dsimp only
    split
    · rename_i h
      have he : s.err = 0 := by simp only [nudgeFires, Bool.and_eq_true, decide_eq_true_eq] at h; exact h.1
      rw [show s.err + 1 = 1 by rw [he]; rfl]
      exact .bdNudges he h
    · rename_i h1
      split
      · exact .bdHunts (by simpa using h1) ‹_›
      · rename_i h2; exact .bdStays (by simpa using h1) (by simpa using h2)
  · by_cases h : boundAccepted s = []
    · have h2 : boundData s = [] := by simp [boundData, h]
      have hb : bdRx s.env.now s = (.boundNoValues, afterPass s) := by
        simp only [bdRx, drain_bd, bdWrites_readable, bdPass_readable, h, h2, bdFinish]
        rfl
      rw [hb]; exact .bdDiscards h
    · have hb : bdRx s.env.now s = (if boundData s = [] then .boundNoValues else .boundNewValues,
          (adv .hop { afterPass s with err := 0, sticks := ((boundData s).map sticksOf).getLastD s.sticks }).setLast
            s.env.now) := by
        have hg : (false || decide (boundAccepted s ≠ [])) = true := by simpa using h
        simp only [bdRx, drain_bd, bdWrites_readable, bdPass_readable, if_neg h, bdFinish, hg, if_true]
      rw [hb]; exact .bdAccepts h
  · exact .slNothing _
  · exact .slNothing _

/-! ### What ADV leaves alone -/

@[simp] theorem adv_fsm (t : AdvTable) (s : State) : (adv t s).fsm = s.fsm := by cases t <;> rfl
@[simp] theorem adv_err (t : AdvTable) (s : State) : (adv t s).err = s.err := by cases t <;> rfl
@[simp] theorem adv_last (t : AdvTable) (s : State) : (adv t s).last = s.last := by cases t <;> rfl
@[simp] theorem adv_status (t : AdvTable) (s : State) : (adv t s).status = s.status := by cases t <;> rfl
@[simp] theorem adv_txid (t : AdvTable) (s : State) : (adv t s).txid = s.txid := by cases t <;> rfl
@[simp] theorem adv_hop (t : AdvTable) (s : State) : (adv t s).hop = s.hop := by cases t <;> rfl
@[simp] theorem adv_frame (t : AdvTable) (s : State) : (adv t s).frame = s.frame := by cases t <;> rfl
@[simp] theorem adv_sticks (t : AdvTable) (s : State) : (adv t s).sticks = s.sticks := by cases t <;> rfl
@[simp] theorem adv_params (t : AdvTable) (s : State) : (adv t s).params = s.params := by cases t <;> rfl
@[simp] theorem adv_initialised (t : AdvTable) (s : State) : (adv t s).initialised = s.initialised := by
  cases t <;> rfl
@[simp] theorem adv_done (t : AdvTable) (s : State) : (adv t s).done = s.done := by cases t <;> rfl
@[simp] theorem adv_inputs (t : AdvTable) (s : State) : (adv t s).inputs = s.inputs := by cases t <;> rfl
@[simp] theorem adv_result (t : AdvTable) (s : State) : (adv t s).result = s.result := by cases t <;> rfl
@[simp] theorem adv_freeReads (t : AdvTable) (s : State) : (adv t s).freeReads = s.freeReads := by
  cases t <;> rfl
@[simp] theorem adv_now (t : AdvTable) (s : State) : (adv t s).env.now = s.env.now := by cases t <;> rfl

/-- ADV ends with the radio on the entry of the new cursor. -/
theorem adv_cur (t : AdvTable) (s : State) : (adv t s).cur = nextCursor t s.cur := by cases t <;> rfl

theorem adv_radioCh (t : AdvTable) (s : State) :
    (adv t s).env.radioCh = channelAt t (nextCursor t s.cur) s := by cases t <;> rfl

theorem adv_trace (t : AdvTable) (s : State) :
    (adv t s).trace = s.trace ++ [.setch (channelAt t (nextCursor t s.cur) s)] := by cases t <;> rfl

/-! ### What a STEP can do -/

/-- The state a step case of STEP starts from: the trace begun, with the poll unless `STATE = 3` (R133, R135). -/
def polled (s : State) : State :=
  { s with trace := if s.fsm = .signalLost then [] else [.poll s.env.rxPending] }

theorem dispatch_eq (s : State) :
    dispatch s.env.now (s.setTrace []) = stepCase s.fsm s.env.rxPending s.env.now (polled s) := by
  unfold dispatch polled
  cases h : s.fsm <;> simp [h, txPoll, State.setTrace, State.issue, stepCase]

theorem exec_step_of_initialised {s : State} (h : s.initialised = true) : exec .step s = .next (stepOp s) := by
  show execStep s = _
  rw [execStep, if_pos h]

/-- Every next state of a STEP is a step case's outcome from the polled state, with `STATUS` written and `done` up. -/
theorem execStep_outcome {s t : State} (h : exec .step s = .next t) : s.initialised = true ∧
    ∃ r, CaseOutcome (polled s) s.fsm s.env.rxPending r ∧ t = (r.2.setStatus r.1).setDone true := by
  have hi : s.initialised = true := by
    by_contra hh
    have h' : exec .step s = .refused .stepBeforeInit := by
      show execStep s = _
      rw [execStep, if_neg hh]
    rw [h'] at h; cases h
  rw [exec_step_of_initialised hi] at h
  cases h
  refine ⟨hi, _, stepCase_outcome (polled s) s.fsm s.env.rxPending, ?_⟩
  unfold stepOp
  rw [dispatch_eq]
  rfl

/-- A step case leaves alone what belongs to the host port and to the instantiation. -/
theorem CaseOutcome.frame {s : State} {st : FsmState} {p : Bool} {r : Status × State} (h : CaseOutcome s st p r) :
    r.2.result = s.result ∧ r.2.status = s.status ∧ r.2.params = s.params ∧ r.2.initialised = s.initialised ∧
      r.2.inputs = s.inputs ∧ r.2.freeReads = s.freeReads ∧ r.2.env.now = s.env.now := by
  cases h <;> simp [afterPass, capture_eq, afterFirstBind]

/-! ### What one frame by itself can do -/

/-- The state one frame by itself can end in (R93), before its class is answered. -/
inductive FrameOutcome (f : Frame) (s : State) : State → Prop
  | captured (hs : s.fsm = .noBind) (h : bindable f = true) :
      FrameOutcome f s (capture s.env.now (s.setFrame f))
  | discarded (hs : s.fsm ≠ .signalLost) (h : accepts s.fsm s.txid f = false) : FrameOutcome f s (s.setFrame f)
  | synchronised (hs : s.fsm = .waitFirstSynchro) (h : crcchk f = true) :
      FrameOutcome f s ((adv .hop ((s.setFrame f).setLast s.env.now)).setFsm .bound)
  | credited (hs : s.fsm = .bound) (h1 : crcchk f = true) (h2 : idmatch f s.txid = true) :
      FrameOutcome f s ((adv .hop { s with
        frame := f, err := 0, sticks := if fclass f = .data then sticksOf f else s.sticks }).setLast s.env.now)
  | unread (hs : s.fsm = .signalLost) : FrameOutcome f s s

theorem frameAlone_outcome (f : Frame) (s : State) : FrameOutcome f s (frameAlone f s) := by
  cases hs : s.fsm
  · by_cases h : bindable f = true
    · have he : frameAlone f s = capture s.env.now (s.setFrame f) := by
        simp only [frameAlone, hs]; rw [nbBody_of_bindable _ _ (by simpa using h)]
      rw [he]; exact .captured hs h
    · have he : frameAlone f s = s.setFrame f := by
        simp only [frameAlone, hs]; rw [nbBody_of_not_bindable _ _ (by simpa using h)]
      rw [he]; exact .discarded (by simp [hs]) (by simpa [accepts, hs, bindable] using h)
  · by_cases h : crcchk f = true
    · have he : frameAlone f s = (adv .hop ((s.setFrame f).setLast s.env.now)).setFsm .bound := by
        simp [frameAlone, hs, wsBody, h, wsFinish]
      rw [he]; exact .synchronised hs h
    · have he : frameAlone f s = s.setFrame f := by simp [frameAlone, hs, wsBody, h, wsFinish]
      rw [he]; exact .discarded (by simp [hs]) (by simpa [accepts, hs] using h)
  · by_cases h : crcchk f = true ∧ idmatch f s.txid = true
    · have he : frameAlone f s = (adv .hop { s with
          frame := f, err := 0, sticks := if fclass f = .data then sticksOf f else s.sticks }).setLast s.env.now := by
        by_cases hc : fclass f = .data <;>
          simp [frameAlone, hs, bdBody, h.1, h.2, hc, bdFinish, sdecode, State.setFrame, State.setErr, State.setSticks]
      rw [he]; exact .credited hs h.1 h.2
    · have he : frameAlone f s = s.setFrame f := by simp [frameAlone, hs, bdBody, h, bdFinish]
      rw [he]; exact .discarded (by simp [hs]) (by simpa [accepts, hs] using h)
  · have he : frameAlone f s = s := by simp [frameAlone, hs]
    rw [he]; exact .unread hs

/-! ### What a step of the machine can do -/

/-- A next state of `step` is the same state, with no command waiting, or that of the operation the next command's word
decodes to. -/
theorem step_cases {s t : State} (h : step s = .next t) : t = s ∧ s.inputs = [] ∨
    ∃ l rest i, s.inputs = l :: rest ∧ l.overlap = false ∧ decode l.word = .ok i ∧
      exec i (takeLine l rest s) = .next t := by
  unfold step fetch at h
  cases hi : s.inputs with
  | nil => simp [hi] at h; exact .inl ⟨h.symm, rfl⟩
  | cons l rest =>
    refine .inr ⟨l, rest, ?_⟩
    simp only [hi] at h
    cases ho : l.overlap <;> simp [ho] at h
    cases hd : decode l.word <;> simp [hd] at h
    exact ⟨_, rfl, rfl, rfl, h⟩

/-- A word of format HCMD is INIT or STEP. -/
theorem decode_hcmd {w : OpWord} {i : Instr} (h : w.fmt = .hcmd) (hd : decode w = .ok i) : i = .init ∨ i = .step := by
  rcases w with ⟨f, b⟩
  subst h
  simp only [decode] at hd
  split at hd
  · cases hd; simp only [decodeHcmd]; split <;> simp
  · cases hd

/-- A STEP command at the head of the queue, from an initialised state: the step is the outcome of the selected case. -/
theorem step_of_step_word {s : State} {l : HostLine} {rest : List HostLine} (h : s.inputs = l :: rest)
    (hw : l.word = ⟨.hcmd, 1⟩) (ho : l.overlap = false) (hi : s.initialised = true) :
    ∃ r, CaseOutcome (polled (takeLine l rest s)) s.fsm l.pend r ∧ step s = .next ((r.2.setStatus r.1).setDone true) ∧
      r.2.inputs = rest ∧ r.2.initialised = true := by
  have hd : decode l.word = .ok .step := by rw [hw]; rfl
  have h1 : step s = exec .step (takeLine l rest s) := by simp [step, fetch, h, ho, hd]
  have hi' : (takeLine l rest s).initialised = true := hi
  rw [exec_step_of_initialised hi'] at h1
  obtain ⟨-, r, hr, ht⟩ := execStep_outcome (exec_step_of_initialised hi')
  rw [ht] at h1
  exact ⟨r, hr, h1, hr.frame.2.2.2.2.1, hr.frame.2.2.2.1.trans hi⟩

/-- One step of a run. -/
theorem core_run_succ (k : Nat) (s t : core.State) (h : core.step s = .next t) : core.run (k + 1) s = core.run k t := by
  simp only [Host.Core.run, h]

/-- T_READ touches nothing but `FRAME`, the FIFO, the trace and the count of free values. -/
theorem txRead_frame (s : State) : (txRead s).fsm = s.fsm ∧ (txRead s).txid = s.txid ∧ (txRead s).hop = s.hop ∧
    (txRead s).params = s.params ∧ (txRead s).status = s.status ∧ (txRead s).sticks = s.sticks := by
  unfold txRead; split <;> exact ⟨rfl, rfl, rfl, rfl, rfl, rfl⟩

/-- The invariants look at `STATE`, `CUR`, `ERR`, `HOP`, `TXID`, the parameters and the radio channel alone. -/
theorem Inv.congr {s t : State} (h : Inv s) (h1 : t.fsm = s.fsm) (h2 : t.cur = s.cur) (h3 : t.err = s.err)
    (h4 : t.hop = s.hop) (h5 : t.txid = s.txid) (h6 : t.params = s.params) (h7 : t.env.radioCh = s.env.radioCh) :
    Inv t := by
  have hp : t.probe = s.probe := by simp [State.probe, h6]
  obtain ⟨ha, hb, hc, hd, he, hf, hg, hhh, hr⟩ := h
  constructor <;> simp only [h1, h2, h3, h4, h5, h6, h7, hp] <;> assumption

end Sys2Proof.Machine
end

