-- ==== Sys2Proof/Tests/Slice0.lean ====
section
/-! SUPPORT. The model's own tests: the checks of WellFormed, words written out from the spec's encodings, one or two
vectors of 95_test_vectors.md per operation (its ids are named), and for every statement a concrete state and operands
that meet its hypotheses. -/

namespace Sys2Proof.Tests

open Sys2Proof.Machine

/-! ### Helpers -/

def decodesTo (w : OpWord) (i : Instr) : Bool :=
  match decode w with
  | .ok j => j == i
  | .error _ => false

def rejects (w : OpWord) (e : DecodeReject) : Bool :=
  match decode w with
  | .ok _ => false
  | .error d => d == e

/-- The outcome is a next state that `P` holds of. -/
def nextHas (o : Host.Outcome State Fault Refusal) (P : State → Bool) : Bool :=
  match o with
  | .next t => P t
  | .fault _ => false
  | .refused _ => false

/-- A property of every frame of a list, by evaluation. -/
theorem all_frames {P : Frame → Prop} [DecidablePred P] (l : List Frame) (h : (l.all fun g => decide (P g)) = true) :
    ∀ g ∈ l, P g := fun g hg => of_decide_eq_true (List.all_eq_true.1 h g hg)

/-- A line `STEP now=… pend=… fifo=…` (R110). -/
def stepLine (now : Tick) (pend : Bool) (fifo : List Frame) : HostLine := ⟨⟨.hcmd, 1⟩, now, pend, fifo, false⟩

def initLine (now : Tick) : HostLine := ⟨⟨.hcmd, 0⟩, now, false, [], false⟩

/-- A state of the block with id `t`, its table from the default `HOP_BASE`. -/
def mkState (fsm : FsmState) (cur : Cursor) (err : BitVec 8) (last : Tick) (t : TxId) : State :=
  { State.reset with fsm := fsm, cur := cur, err := err, last := last, txid := t, hop := deriveId defaultHopBase t, trace := [] }

def withLine (s : State) (l : HostLine) : State := { s with inputs := [l] }

def withFifo (s : State) (now : Tick) (fifo : List Frame) : State :=
  { s with env := { s.env with now := now, rxFifo := fifo, rxPending := true } }

def id123 : TxId := #v[1, 2, 3]

def boundState : State := mkState .bound 3 1 1000 id123
def probing : State := mkState .noBind 5 0 100 #v[0, 0, 0]
def waiting : State := mkState .waitFirstSynchro 0 0 150 id123

/-! Frames of 95_test_vectors.md part 3. -/

def bind123 : Frame := #v[0, 0, 0, 0, 0x40, 0x40, 0x40, 1, 2, 3, 0, 0, 0, 0, 0xC0, 0x86]
def xbind : Frame := #v[0, 0, 0, 0, 0x40, 0x40, 0x40, 1, 2, 3, 0, 0, 0, 0, 0xC0, 0x87]
def d1 : Frame := #v[0x7F, 0x10, 0x90, 0x80, 0x40, 0x45, 0x3B, 1, 2, 3, 0, 0, 0, 0, 4, 0x69]
def frameA : Frame := #v[0x30, 0x85, 5, 0x80, 0x41, 0x3F, 0x40, 1, 2, 3, 0, 0, 0, 0, 1, 1]
def frameB : Frame := #v[0x31, 0x86, 6, 0x81, 0x42, 0x3E, 0x40, 1, 2, 3, 0, 0, 0, 0, 2, 6]
def foreign : Frame := #v[0x20, 0x81, 1, 0x80, 0x40, 0x40, 0x40, 9, 9, 9, 0, 0, 0, 0, 0, 0xFD]
def badFrame : Frame := #v[0x11, 0x22, 0x33, 0x44, 0x40, 0x40, 0x40, 1, 2, 3, 0, 0, 0, 0, 0, 0x71]
def sdc2 : Frame := #v[0, 0, 0x7F, 0xFF, 0, 0xFF, 0xC0, 1, 2, 3, 0xDE, 0xAD, 0xBE, 0xEF, 0x10, 0x8B]

def bodyBind123 : FrameBody := ⟨0, 0, 0, 0, 0x40, 0x40, 0x40, 1, 2, 3, 0, 0x86⟩
def bodyD1 : FrameBody := ⟨0x7F, 0x10, 0x90, 0x80, 0x40, 0x45, 0x3B, 1, 2, 3, 0, 0x69⟩

/-- The sticks of V-SDC-1, as the bit patterns of section 2.6. -/
def sticksD1 : Sticks := ⟨0x7F, 0xF0, 0x10, 0, 0, 0x005, 0x1FB, 4⟩

/-! ### WellFormed refuses what is ill formed -/

theorem test_wf_data_with_bind_mark : (Instr.data bodyD1 0xC0).wf = false := by decide
theorem test_wf_hcmd_too_wide : OpWord.wf ⟨.hcmd, 2⟩ = false := by decide
theorem test_wf_tcmd_too_wide : OpWord.wf ⟨.tcmd, 0x800⟩ = false := by decide
theorem test_wf_hop_base : Params.hopBaseOk
    { defaultParams with hopBase := #v[defaultHopBase[0], defaultHopBase[1], defaultHopBase[0], defaultHopBase[3]] }
    = false := by decide
theorem test_wf_probe_offsets : Params.probeOffOk
    { defaultParams with probeOff := #v[0, 8, 8, 24, 32, 40, 48, 56] } = false := by decide
theorem test_wf_default : defaultParams.wf = true := by decide

/-! ### Decoding: words written out from R94, R95, R96, R91 -/

theorem test_decode_hcmd : (decodesTo ⟨.hcmd, 0b0⟩ .init && decodesTo ⟨.hcmd, 0b1⟩ .step) = true := by decide
theorem test_decode_sel_no_bind :
    (decodesTo ⟨.sel, 0b000⟩ .nbHunt && decodesTo ⟨.sel, 0b001⟩ .nbRx) = true := by decide
theorem test_decode_sel_waiting :
    (decodesTo ⟨.sel, 0b010⟩ .wsIdle && decodesTo ⟨.sel, 0b011⟩ .wsRx) = true := by decide
theorem test_decode_sel_bound :
    (decodesTo ⟨.sel, 0b100⟩ .bdHunt && decodesTo ⟨.sel, 0b101⟩ .bdRx) = true := by decide
theorem test_decode_sel_signal_lost :
    (decodesTo ⟨.sel, 0b110⟩ .slNop && decodesTo ⟨.sel, 0b111⟩ .slNop) = true := by decide
theorem test_decode_tcmd_channels :
    (decodesTo ⟨.tcmd, 0b00000011000⟩ (.tCfgrx 0x18) && decodesTo ⟨.tcmd, 0b00100010010⟩ (.tSetch 0x12)) = true := by
  decide
theorem test_decode_tcmd_queries :
    (decodesTo ⟨.tcmd, 0x200⟩ .tPoll && decodesTo ⟨.tcmd, 0x400⟩ .tEmpty && decodesTo ⟨.tcmd, 0x500⟩ .tRead) = true := by
  decide
theorem test_decode_tcmd_clears :
    (decodesTo ⟨.tcmd, 0x300⟩ .tClrf && decodesTo ⟨.tcmd, 0x600⟩ .tFlushrx && decodesTo ⟨.tcmd, 0x700⟩ .tFlushtx)
      = true := by decide
/-- R101: the argument of a command without a channel is ignored. -/
theorem test_decode_tcmd_ignored_arg : decodesTo ⟨.tcmd, 0x2FF⟩ .tPoll = true := by decide
/-- V-CRC-1 as a 128-bit vector (section 2.5). -/
theorem test_decode_bind : decodesTo ⟨.frame, 0x86C00000000003020140404000000000⟩ (.bind bodyBind123) = true := by decide
/-- D1 as a 128-bit vector, byte 0 lowest (R63). -/
theorem test_decode_data : decodesTo ⟨.frame, 0x6904000000000302013B45408090107F⟩ (.data bodyD1 4) = true := by decide
theorem test_decode_too_wide : rejects ⟨.sel, 8⟩ (.wordTooWide .sel) = true := by decide
theorem test_decode_func : rejects ⟨.func, 0⟩ .functionHasNoWord = true := by decide
theorem test_decode_table : decodeTableWord 11 0x14D = some (.tSetch 0x4D) ∧ decodeTableWord 3 5 = some .bdRx ∧
    decodeTableWord 1 1 = some .step := by decide

theorem test_encode_tcmd : encode (.tSetch 0x4D) = some ⟨.tcmd, 0x14D⟩ ∧ encode .tFlushtx = some ⟨.tcmd, 0x700⟩ := by
  decide
theorem test_encode_bind : encode (.bind bodyBind123) = some ⟨.frame, 0x86C00000000003020140404000000000⟩ := by decide
theorem test_encode_data : encode (.data bodyD1 4) = some ⟨.frame, 0x6904000000000302013B45408090107F⟩ := by decide

/-! ### The derivation engine (sections 2.1 to 2.3) -/

/-- V-AV-7 and V-AV-2 -/
theorem test_avoid16 : avoid16 0x00 = 0xFD ∧ avoid16 0x30 = 0x2D := by decide
/-- V-AV-9 through the machine -/
theorem test_exec_avoid16 : nextHas (exec (.avoid16 0x11) State.reset) (fun t => t.result == .byte 0x11) = true := by
  decide
/-- V-DER-3 -/
theorem test_derive_wraps : nextHas (exec (.derive 0xFF 0xFF 0xFF) State.reset) (fun t => t.result == .hopTable
    #v[0x35, 0x3A, 0x2C, 0x3F, 0x1D, 0x19, 0x1F, 0x1D, 0x31, 0x23, 0x26, 0x3E, 0x36, 0x2A, 0x3B, 0x17]) = true := by
  decide
/-- V-DER-10 -/
theorem test_derive_smallest_entry : deriveHop defaultHopBase 0x21 0 0 =
    #v[0x2E, 0x33, 0x25, 0x38, 0x19, 0x12, 0x18, 0x16, 0x2A, 0x1C, 0x1F, 0x37, 0x2F, 0x23, 0x34, 0x0D] := by decide
/-- V-PRB-1 -/
theorem test_probegen : nextHas (exec .probegen State.reset) (fun t => t.result == .probeTable
    #v[0x18, 0x1D, 0x28, 0x2D, 0x38, 0x3D, 0x48, 0x4D]) = true := by decide
/-- V-PRB-2 -/
theorem test_probegen_wraps : probegen { defaultParams with probeBase := 0xF8 } =
    #v[0xF8, 0xFD, 0x08, 0x0D, 0x18, 0x1D, 0x28, 0x2D] := by decide

/-! ### Frame validation and stick decode (sections 2.4 to 2.7) -/

/-- V-CRC-9, V-CRC-2 -/
theorem test_crcchk : nextHas (exec (.crcchk sdc2) State.reset) (fun t => t.result == .bit true) = true ∧
    crcchk xbind = false := by decide
/-- V-CRC-5, V-CRC-6 -/
theorem test_crcchk_of_ff : crcchk (Vector.ofFn fun _ : Fin 16 => 0xFF) = false ∧
    crcchk #v[255, 255, 255, 255, 255, 255, 255, 255, 255, 255, 255, 255, 255, 255, 255, 0xF1] = true := by decide
/-- V-ID-1, V-ID-4 -/
theorem test_idmatch : nextHas (exec (.idmatch d1 id123) State.reset) (fun t => t.result == .bit true) = true ∧
    idmatch d1 #v[3, 2, 1] = false := by decide
/-- V-FC-1, V-FC-4 -/
theorem test_fclass : nextHas (exec (.fclass bind123) State.reset) (fun t => t.result == .frameClass .bind) = true ∧
    fclass (d1.set 14 0xC1) = .data := by decide
/-- rows 10 and 7F of section 2.6 -/
theorem test_stkdec : nextHas (exec (.stkdec 0x10) State.reset) (fun t => t.result == .signed8 0xF0) = true ∧
    stkdec 0x7F = -127 := by decide
/-- rows 90 and 80 -/
theorem test_stkdec_positive : stkdec 0x90 = 16 ∧ stkdec 0x80 = 0 := by decide
/-- rows 3B and FF -/
theorem test_trimdec : nextHas (exec (.trimdec 0x3B) State.reset) (fun t => t.result == .signed9 0x1FB) = true ∧
    enc9 (trimdec 0xFF) = 0x0BF := by decide
/-- V-SDC-1 -/
theorem test_sdecode : nextHas (exec (.sdecode d1) State.reset) (fun t => t.sticks == sticksD1) = true := by decide
/-- V-SDC-2 -/
theorem test_sdecode_extremes : sticksOf sdc2 = ⟨0, 0, 0x81, 0x7F, 0x1C0, 0x0BF, 0x080, 0x10⟩ := by decide

/-! ### Hunt (sections 2.8, 2.9, 2.11, 2.15) -/

/-- row 2 of section 2.8 -/
theorem test_elapsed : nextHas (exec (.elapsed 3 0xFFFFFFF8) State.reset) (fun t => t.result == .ticks 11) = true := by
  decide
/-- row 2 of section 2.9 -/
theorem test_adv_probe_wraps : nextHas (exec (.adv .probe) { State.reset with cur := 7 })
    (fun t => t.cur == 0 && t.env.radioCh == 0x18) = true := by decide
/-- row 5 of section 2.9, with V-DER-1's entry 0 -/
theorem test_adv_hop_wraps : nextHas (exec (.adv .hop) { boundState with cur := 15 })
    (fun t => t.cur == 0 && t.trace == [.setch 0x12]) = true := by decide
/-- V-NBH-2 -/
theorem test_nb_hunt_128 : nextHas (exec .nbHunt { State.reset with env := { State.reset.env with now := 128 } })
    (fun t => t.cur == 0 && t.result == .status .notBound) = true := by decide
/-- V-NBH-5 -/
theorem test_nb_hunt_one_advance : nextHas (step (withLine { mkState .noBind 3 0 0 id123 with trace := [] }
    (stepLine 100000 false []))) (fun t => t.cur == 4 && t.last == 100000 && t.status == 2 &&
      t.trace == [.poll false, .setch 0x38]) = true := by decide
/-- V-BDH-6 -/
theorem test_bd_hunt_first_tier_only : nextHas (step (withLine (mkState .bound 0 0 1000 id123)
    (stepLine 2000 false []))) (fun t => t.cur == 1 && t.err == 1 && t.last == 2000 && t.status == 1 &&
      t.trace == [.poll false, .setch 0x1B]) = true := by decide
/-- V-BDH-4 -/
theorem test_bd_hunt_140 : nextHas (exec .bdHunt { mkState .bound 0 1 1000 id123 with
    env := { State.reset.env with now := 1140 } }) (fun t => t.cur == 0 && t.last == 1000) = true := by decide

/-! ### Receive (sections 2.12 to 2.14, P3) -/

/-- V-NBR-2 -/
theorem test_nb_rx_captures : nextHas (step (withLine probing (stepLine 150 true [bind123]))) (fun t =>
    t.fsm == .waitFirstSynchro && t.cur == 0 && t.last == 150 && t.txid == id123 && t.status == 3 &&
    t.trace == [.poll true, .clrf, .empty false, .read bind123, .setch 0x12, .flushrx]) = true := by decide
/-- V-NBR-4, by the case itself -/
theorem test_nb_rx_data_does_not_bind : nextHas (exec .nbRx (withFifo probing 150 [d1])) (fun t =>
    t.fsm == .noBind && t.cur == 5 && t.frame == d1 && t.result == .status .notBound) = true := by decide
/-- V-WS-1 -/
theorem test_ws_idle : nextHas (step (withLine waiting (stepLine 100000 false []))) (fun t =>
    t.fsm == .waitFirstSynchro && t.last == 150 && t.status == 3 && t.trace == [.poll false]) = true := by decide
/-- V-WS-6 -/
theorem test_ws_rx_one_advance : nextHas (step (withLine waiting (stepLine 160 true [d1, frameA, frameB]))) (fun t =>
    t.fsm == .bound && t.cur == 1 && t.last == 160 && t.status == 3 && t.sticks == zeroSticks) = true := by decide
/-- V-WS-3 -/
theorem test_ws_rx_bad_checksum : nextHas (exec .wsRx (withFifo waiting 160 [badFrame])) (fun t =>
    t.fsm == .waitFirstSynchro && t.cur == 0) = true := by decide
/-- P3 line 5: A, BIND123 and B accepted, B's values, one advance -/
theorem test_bd_rx_mixed_pass : nextHas (step (withLine (mkState .bound 4 0 1008 id123)
    (stepLine 1020 true [badFrame, foreign, frameA, bind123, frameB, foreign]))) (fun t =>
    t.status == 0 && t.cur == 5 && t.last == 1020 && t.sticks == ⟨49, 6, 0xFA, 1, 2, 0x1FE, 0, 2⟩) = true := by decide
/-- P3 line 4: a bind frame credits and is not decoded -/
theorem test_bd_rx_bind_frame : nextHas (exec .bdRx (withFifo boundState 1008 [bind123])) (fun t =>
    t.err == 0 && t.cur == 4 && t.last == 1008 && t.sticks == zeroSticks && t.result == .status .boundNoValues)
    = true := by decide
/-- V-SL-1 -/
theorem test_sl_nop : nextHas (step (withLine { boundState with fsm := .signalLost } (stepLine 7 true [bind123])))
    (fun t => t.fsm == .signalLost && t.status == 3 && t.trace == [] && t.env.rxFifo == [bind123] && t.cur == 3)
    = true := by decide
theorem test_exec_sl_nop : nextHas (exec .slNop boundState) (fun t => t.result == .status .bindInProgress) = true := by
  decide
/-- R93's rows for one frame: a stranger's frame in BOUND, a bind frame in NO_BIND -/
theorem test_exec_data_foreign : nextHas (exec (.data ⟨0x20, 0x81, 1, 0x80, 0x40, 0x40, 0x40, 9, 9, 9, 0, 0xFD⟩ 0)
    boundState) (fun t => t.result == .frame .data false && t.frame == foreign && t.cur == 3) = true := by decide
theorem test_exec_bind : nextHas (exec (.bind bodyBind123) probing) (fun t =>
    t.result == .frame .bind true && t.txid == id123 && t.fsm == .waitFirstSynchro) = true := by decide

/-! ### INIT, STEP, refusals -/

/-- V-INIT-2 -/
theorem test_init : nextHas (step (withLine { mkState .bound 9 1 77 id123 with sticks := sticksD1 }
    (initLine 0x12345678))) (fun t => t.fsm == .noBind && t.cur == 0 && t.err == 0 && t.last == 0x12345678 &&
      t.status == 4 && t.txid == id123 && t.sticks == sticksD1 && t.trace == [.cfgrx 0x18]) = true := by decide
/-- P1 line 8 -/
theorem test_step_new_values : nextHas (step (withLine (mkState .bound 1 0 152 id123) (stepLine 160 true [d1])))
    (fun t => t.status == 0 && t.cur == 2 && t.sticks == sticksD1 && t.env.radioCh == 0x36) = true := by decide

/-! ### Transport commands, each fetched as the first operation after reset -/

theorem test_t_cfgrx : nextHas (step (State.reset.withFetchWord 11 0x018)) (fun t => t.env.radioCh == 0x18 &&
    t.env.receiving) = true := by decide
theorem test_t_setch : nextHas (step (State.reset.withFetchWord 11 0x14D)) (fun t => t.env.radioCh == 0x4D &&
    t.inputs == []) = true := by decide
theorem test_t_poll : nextHas (exec .tPoll (withFifo boundState 0 [])) (fun t => t.trace == [.poll true]) = true := by decide
theorem test_t_clrf : nextHas (exec .tClrf (withFifo boundState 0 [d1])) (fun t => t.env.rxPending == false &&
    t.env.rxFifo == [d1]) = true := by decide
theorem test_t_empty : nextHas (exec .tEmpty (withFifo boundState 0 [d1])) (fun t => t.trace == [.empty false]) = true := by
  decide
theorem test_t_read : nextHas (exec .tRead (withFifo boundState 0 [d1, frameA])) (fun t => t.frame == d1 &&
    t.env.rxFifo == [frameA]) = true := by decide
theorem test_t_read_empty : nextHas (exec .tRead boundState) (fun t => t.freeReads == 1) = true := by decide
theorem test_t_flushrx : nextHas (exec .tFlushrx (withFifo boundState 0 [d1, frameA])) (fun t =>
    t.env.rxFifo == [] && t.env.rxPending) = true := by decide
theorem test_t_flushtx : nextHas (exec .tFlushtx { boundState with
    env := { boundState.env with txFifo := [[1, 2]] } }) (fun t => t.env.txFifo == []) = true := by decide

/-! ### Witnesses: a concrete state and operands for the hypotheses of every statement, each clause at a boundary -/

theorem witness_OperationWordsRoundTrip : (Instr.data bodyD1 0xC1).wf = true ∧
    encode (.data bodyD1 0xC1) = some ⟨.frame, 0x69C1000000000302013B45408090107F⟩ := by decide
theorem witness_EveryPortWord_inside : Format.tcmd ≠ .func ∧ 0x7FF < 2 ^ Format.tcmd.width := by decide
theorem witness_EveryPortWord_outside : Format.tcmd ≠ .func ∧ ¬ 0x800 < 2 ^ Format.tcmd.width := by decide
theorem witness_FrameClass_bind :
    0x86C00000000003020140404000000000#128 &&& 0x00FF0000000000000000000000000000#128
      = 0x00C00000000000000000000000000000#128 := by decide
theorem witness_FrameClass_data :
    0x86C10000000003020140404000000000#128 &&& 0x00FF0000000000000000000000000000#128
      ≠ 0x00C00000000000000000000000000000#128 := by decide
/-- DERIVE(FF, FF, FF): sum 0xFD, row 1, increment 7; entry 0 is 0x2E + 7. -/
theorem witness_DeriveResult : (253 : Nat) = ((0xFF : Byte).toNat + (0xFF : Byte).toNat + (0xFF : Byte).toNat) % 256 ∧
    (0x35 : Nat) = (((State.reset.params.hopBase[253 % 4]'(by decide))[(0 : Fin 16)]).toNat + 253 / 4 % 8) % 256 := by
  decide
/-- V-DER-3 and V-DER-6 -/
theorem witness_DeriveDependsOnFiveSumBits :
    ((0xFF : Byte).toNat + (0xFF : Byte).toNat + (0xFF : Byte).toNat) % 32
      = ((0 : Byte).toNat + (0 : Byte).toNat + (0x1D : Byte).toNat) % 32 := by decide
theorem witness_SourceIdFirstChannel : defaultParams.hopBaseOk = true := by decide
theorem witness_ProbegenResult : (0x50 : Nat) = (State.reset.params.probeBase.toNat
    + State.reset.params.probeOff[(7 : Fin 8)].toNat) % 256 := by decide
theorem witness_Checksum_one_byte : crcchk bind123 = true ∧ (1 : Byte) ≠ bind123[(15 : Fin 16)] := by decide
/-- V-CRC-3 and V-CRC-8 -/
theorem witness_Checksum_same_sum : d1[15] = ((d1.set 0 0x10).set 1 0x7F)[15] ∧
    ((d1.toList.take 15).map BitVec.toNat).sum % 256
      = ((((d1.set 0 0x10).set 1 0x7F).toList.take 15).map BitVec.toNat).sum % 256 := by decide
theorem witness_Checksum_swap : (0 : Fin 16).val < 15 ∧ (14 : Fin 16).val < 15 := by decide

theorem witness_FrameInNoBind_capture : bind123 = frameOf bodyBind123 0xC0 ∧ probing.fsm = .noBind ∧
    crcchk bind123 = true := by decide
theorem witness_FrameInNoBind_bad : xbind = frameOf { bodyBind123 with csum := 0x87 } 0xC0 ∧ probing.fsm = .noBind ∧
    crcchk xbind = false := by decide
theorem witness_FrameInNoBind_data : (4 : Byte) ≠ 0xC0 ∧ probing.fsm = .noBind := by decide
theorem witness_FrameInSignalLost : (4 : Byte) ≠ 0xC0 ∧ { boundState with fsm := .signalLost }.fsm = .signalLost := by
  decide
/-- The frame D1 as a DATA operation, and BIND123 as a BIND operation. -/
theorem witness_FrameInWaitOrBound_data : ∃ b m, Instr.data bodyD1 4 = .data b m ∧ m ≠ 0xC0 ∧ d1 = frameOf b m ∧
    FrameClass.data = .data := ⟨bodyD1, 4, by decide⟩
theorem witness_FrameInWaitOrBound_bind : ∃ b, Instr.bind bodyBind123 = .bind b ∧ bind123 = frameOf b 0xC0 ∧
    FrameClass.bind = .bind := ⟨bodyBind123, by decide⟩
theorem witness_FrameInWait_bad : (1 : Cursor).toNat = (waiting.cur.toNat + 1) % 16 ∧
    waiting.fsm = .waitFirstSynchro ∧ crcchk badFrame = false := by decide
theorem witness_FrameInWait_good : (1 : Cursor).toNat = (waiting.cur.toNat + 1) % 16 ∧
    waiting.fsm = .waitFirstSynchro ∧ crcchk d1 = true := by decide
theorem witness_FrameInBound_foreign : (4 : Cursor).toNat = (boundState.cur.toNat + 1) % 16 ∧
    boundState.fsm = .bound ∧ ¬ (crcchk foreign = true ∧ #v[foreign[7], foreign[8], foreign[9]] = boundState.txid) := by
  decide
theorem witness_FrameInBound_accepted : (0 : Cursor).toNat = ({ boundState with cur := 15 }.cur.toNat + 1) % 16 ∧
    boundState.fsm = .bound ∧ crcchk d1 = true ∧ #v[d1[7], d1[8], d1[9]] = boundState.txid := by decide

/-- The state with `LAST = 0` whose clock shows `now`. -/
def clock (s : State) (now : Tick) : State := { s with last := 0, env := { s.env with now := now } }

theorem witness_ProbeRotation_strict_stays : (128 : Nat) < 2 ^ 32 ∧
    ((clock probing 128).last.toNat + 128) % 2 ^ 32 = (clock probing 128).env.now.toNat ∧
    (if (clock probing 128).params.probeCmpStrict = true then 128 ≤ 128 else 128 < 128) := by decide
theorem witness_ProbeRotation_strict_fires : (129 : Nat) < 2 ^ 32 ∧
    ((clock probing 129).last.toNat + 129) % 2 ^ 32 = (clock probing 129).env.now.toNat ∧
    (if (clock probing 129).params.probeCmpStrict = true then 129 > 128 else 129 ≥ 128) := by decide
theorem witness_ProbeRotation_loose : (if { defaultParams with probeCmpStrict := false }.probeCmpStrict = true then
      127 ≤ 128 else 127 < 128) ∧
    (if { defaultParams with probeCmpStrict := false }.probeCmpStrict = true then 128 > 128 else 128 ≥ 128) := by decide
/-- P2 lines 2 and 3: elapsed 10 and 11 across the wrap, with `ERR = 0`. -/
theorem witness_TwoTierHunt_nudge : ((0xFFFFFFF8 : Tick).toNat + 10) % 2 ^ 32 = (2 : Tick).toNat ∧
    ((0xFFFFFFF8 : Tick).toNat + 11) % 2 ^ 32 = (3 : Tick).toNat ∧ (11 : Nat) > 10 ∧ waiting.err = 0 ∧
    (0 : Cursor).toNat = ((15 : Cursor).toNat + 1) % 16 := by decide
theorem witness_TwoTierHunt_steady : (141 : Nat) < 2 ^ 32 ∧ (141 : Nat) > 140 ∧ boundState.err ≠ 0 ∧
    (boundState.last.toNat + 141) % 2 ^ 32 = (1141 : Tick).toNat ∧
    (4 : Cursor).toNat = (boundState.cur.toNat + 1) % 16 := by decide
theorem witness_TwoTierHunt_nothing : (waiting.err = 0 ∧ 10 ≤ 10) ∧ (boundState.err ≠ 0 ∧ 140 ≤ 140) := by decide

theorem witness_ReadTakesOldestPayload : (withFifo boundState 0 [d1]).env.rxFifo = d1 :: [] ∧
    boundState.env.rxFifo = [] := by decide
theorem witness_FirstBindFrameIsCaptured :
    readable (withFifo probing 150 [d1, xbind, bind123, bind123]) = [d1, xbind] ++ bind123 :: [bind123] ∧
    (∀ g ∈ [d1, xbind], ¬ (crcchk g = true ∧ g[14] = 0xC0)) ∧ crcchk bind123 = true ∧ bind123[14] = 0xC0 :=
  ⟨rfl, all_frames _ (by decide), by decide, by decide⟩
theorem witness_NoBindFrameNoCapture : readable (withFifo probing 150 [d1, xbind]) = [d1, xbind] ∧
    ∀ g ∈ [d1, xbind], ¬ (crcchk g = true ∧ g[14] = 0xC0) := ⟨rfl, all_frames _ (by decide)⟩
theorem witness_AnyValidFrame_none : (1 : Cursor).toNat = (waiting.cur.toNat + 1) % 16 ∧
    readable (withFifo waiting 160 [badFrame]) = [badFrame] ∧ ∀ g ∈ [badFrame], crcchk g = false :=
  ⟨rfl, rfl, all_frames _ (by decide)⟩
theorem witness_AnyValidFrame_some : ∃ g ∈ readable (withFifo waiting 160 [badFrame, foreign]), crcchk g = true :=
  ⟨foreign, List.mem_cons_of_mem _ (List.mem_cons_self), by decide⟩
/-- With DRAIN_MAX = 1 the pass ends before the foreign frame is read. -/
theorem witness_AnyValidFrame_bounded : readable { withFifo waiting 160 [badFrame, foreign] with
    params := { defaultParams with drainMax := some 1 } } = [badFrame] := by decide
theorem witness_BoundReceivePass_none : (4 : Cursor).toNat = (boundState.cur.toNat + 1) % 16 ∧
    boundAccepted (withFifo boundState 1004 [foreign, badFrame]) = [] := by decide
theorem witness_BoundReceivePass_some : (4 : Cursor).toNat = (boundState.cur.toNat + 1) % 16 ∧
    boundAccepted (withFifo boundState 1020 [badFrame, bind123, foreign, frameB]) ≠ [] := by decide

theorem witness_UndefinedUses : State.powerOn.initialised = false ∧
    (withLine State.reset { stepLine 5 false [] with overlap := true }).inputs
      = { stepLine 5 false [] with overlap := true } :: [] ∧
    { stepLine 5 false [] with overlap := true }.overlap = true := by decide
theorem witness_StepRunsTheDecodedCommand : (withLine State.reset (stepLine 5 false [])).inputs
      = stepLine 5 false [] :: [] ∧ (stepLine 5 false []).overlap = false ∧
    decode (stepLine 5 false []).word = .ok .step := ⟨rfl, rfl, rfl⟩
theorem witness_StepRunsTheDecodedCommand_idle : State.reset.inputs = [] := by decide
theorem witness_StepRunsTheDecodedCommand_undecodable :
    decode { stepLine 5 false [] with word := ⟨.hcmd, 2⟩ }.word = .error (.wordTooWide .hcmd) := rfl
/-- For StepRunsTheSelectedCase, StepAlwaysCompletes, EveryOperationCompletes and StatusByCase. -/
theorem witness_initialised : boundState.initialised = true ∧
    (Instr.step = .step → boundState.initialised = true) := by decide
/-- STATUS 0, and STATUS not 0, after a STEP. -/
theorem witness_SticksAreFresh : ∃ t u : State, exec .step (withFifo boundState 1020 [d1]) = .next t ∧ t.status = 0 ∧
    exec .step boundState = .next u ∧ u.status ≠ 0 := ⟨_, _, rfl, by decide, rfl, by decide⟩
theorem witness_BoundsPerStep : ∃ t : State, exec .step (withFifo boundState 1020 [d1, foreign]) = .next t ∧
    t.trace.length = 8 := ⟨_, rfl, by decide⟩
theorem witness_SequencingByCase : boundState.initialised = true ∧
    ((clock probing 129).last.toNat + 129) % 2 ^ 32 = (clock probing 129).env.now.toNat := by decide

/-- For HostStepsKeepTheInvariants and CommandedChannelsAreNoMultipleOfSixteen. -/
theorem witness_Inv : Inv (withLine State.reset (stepLine 129 false [])) ∧
    HostDriven (withLine State.reset (stepLine 129 false [])) ∧
    ∃ t, step (withLine State.reset (stepLine 129 false [])) = .next t :=
  ⟨⟨by decide, by decide, by decide, by decide, by decide, by decide, by decide, by decide, by decide⟩, by decide,
    _, rfl⟩
theorem witness_HostSteps_init : ∃ t : State, exec .init boundState = .next t := ⟨_, rfl⟩
theorem witness_HostSteps_hop : NibblesNonzero boundState.hop ∧ ∃ t : State, exec .nbHunt boundState = .next t :=
  ⟨by decide, _, rfl⟩
theorem witness_OnlyTheListedTransitions : ∃ t : State, exec .slNop { boundState with fsm := .signalLost } = .next t ∧
    t.fsm = .signalLost := ⟨_, rfl, rfl⟩
theorem witness_IdentityIsWritten : ∃ t : State, exec .nbRx (withFifo probing 150 [bind123]) = .next t ∧
    t.txid ≠ probing.txid := ⟨_, rfl, by decide⟩
theorem witness_TablesAreConstants : State.reset.params.wf = true ∧ ∃ t : State, exec .init State.reset = .next t :=
  ⟨by decide, _, rfl⟩
theorem witness_Outputs : ∃ t u : State, exec .init boundState = .next t ∧ t.status ≠ { boundState with status := 1 }.status ∧
    exec (.sdecode d1) boundState = .next u ∧ u.sticks ≠ boundState.sticks := ⟨_, _, rfl, by decide, rfl, by decide⟩

theorem witness_WaitingNeverTimesOut : { waiting with status := 3 }.initialised = true ∧ waiting.fsm = .waitFirstSynchro ∧
    ∀ l ∈ [stepLine 0x7FFFFFFF false [d1], stepLine 3 true [badFrame]], l.word = ⟨.hcmd, 1⟩ ∧ l.overlap = false ∧
      (l.pend = true → ∀ f ∈ l.fifo, crcchk f = false) := by
  have h : crcchk badFrame = false := by decide
  exact ⟨rfl, rfl, by simp [stepLine, h]⟩
theorem witness_BoundIsForEver : boundState.initialised = true ∧ boundState.fsm = .bound ∧
    ∀ l ∈ [stepLine 0x7FFFFFFF false [], stepLine 3 true [d1, bind123]], l.word = ⟨.hcmd, 1⟩ ∧ l.overlap = false := by
  decide
theorem witness_BusyFlag : probing.initialised = true ∧ probing.fsm = .noBind ∧
    ∀ l ∈ [stepLine 1000 true [d1, xbind], stepLine 2000 true []], l.word = ⟨.hcmd, 1⟩ ∧ l.overlap = false ∧
      l.pend = true ∧ ∀ f ∈ l.fifo, ¬ (crcchk f = true ∧ f[14] = 0xC0) := by
  refine ⟨rfl, rfl, ?_⟩
  simp only [List.forall_mem_cons, stepLine]
  exact ⟨⟨trivial, trivial, trivial, by decide, by decide, by simp⟩, ⟨trivial, trivial, trivial, by simp⟩, by simp⟩
theorem witness_ClockWrap : Instr.step.format = .hcmd ∧ ∃ t : State, exec .step boundState = .next t := ⟨rfl, _, rfl⟩

end Sys2Proof.Tests
end

section
/-! PROOFS, family 00_scope.md. What an operation can do, said once for every operation (`ExecOutcome`, `exec_outcome`),
and the statements about the constants of the instantiation and about completion. -/

namespace Sys2Proof.Machine

/-! ### The constants of an instantiation -/

theorem hopBaseOk_iff (p : Params) : p.hopBaseOk = true ↔ p.hopBase[2][0] = 0x11 := beq_iff_eq

/-- Entry `i` of DERIVE (R195). -/
theorem deriveHop_getElem (hb : HopBase) (t0 t1 t2 : Byte) (i : Nat) (h : i < 16) :
    (deriveHop hb t0 t1 t2)[i] = avoid16 (hb[idRow (idSum t0 t1 t2)][i] + idInc (idSum t0 t1 t2)) := by
  simp [deriveHop]

/-! ### What an operation can do -/

/-- The next state of an operation run by itself, by the format of its row. -/
inductive ExecOutcome (s : State) : Instr → State → Prop
  | init : ExecOutcome s .init (initOp s)
  | step {r : Status × State} (hi : s.initialised = true)
      (hr : CaseOutcome (polled s) s.fsm s.env.rxPending r) :
      ExecOutcome s .step ((r.2.setStatus r.1).setDone true)
  | selected {i : Instr} {st : FsmState} {p : Bool} {r : Status × State} (hi : decode (selWord st p) = .ok i)
      (hr : CaseOutcome s st p r) : ExecOutcome s i (r.2.setResult (.status r.1))
  | command {i : Instr} {env : Env} {e : TxEvent} (hi : i.format = .tcmd) (hnow : env.now = s.env.now) :
      ExecOutcome s i ((s.setEnv env).issue e)
  | read : ExecOutcome s .tRead (txRead s)
  | frame {i : Instr} {f : Frame} {u : State} (hi : i.format = .frame) (hu : FrameOutcome f s u) :
      ExecOutcome s i (u.setResult (.frame (fclass f) (accepts s.fsm s.txid f)))
  | function {i : Instr} {v : OpResult} (hi : i.format = .func) : ExecOutcome s i (s.setResult v)
  | sdecode (f : Frame) : ExecOutcome s (.sdecode f) (sdecode f s)
  | adv (n : AdvTable) : ExecOutcome s (.adv n) (adv n s)

/-- A step case by itself is the case its SEL word selects. -/
theorem ExecOutcome.of_stepCase {s : State} {i : Instr} (st : FsmState) (p : Bool)
    (hi : decode (selWord st p) = .ok i) :
    ExecOutcome s i ((stepCase st p s.env.now s).2.setResult (.status (stepCase st p s.env.now s).1)) :=
  .selected hi (stepCase_outcome s st p)

/-- A frame by itself (R93). -/
theorem ExecOutcome.of_frameOp {s : State} {i : Instr} (f : Frame) (hi : i.format = .frame) :
    ExecOutcome s i (frameOp f s) :=
  .frame hi (frameAlone_outcome f s)

/-- Every next state of an operation is one of the outcomes listed. -/
theorem exec_outcome {i : Instr} {s t : State} (h : exec i s = .next t) : ExecOutcome s i t := by
  cases i with
  | init => cases h; exact .init
  | step =>
    obtain ⟨hi, r, hr, rfl⟩ := execStep_outcome h
    exact .step hi hr
  | nbHunt => cases h; exact .of_stepCase .noBind false rfl
  | nbRx => cases h; exact .of_stepCase .noBind true rfl
  | wsIdle => cases h; exact .of_stepCase .waitFirstSynchro false rfl
  | wsRx => cases h; exact .of_stepCase .waitFirstSynchro true rfl
  | bdHunt => cases h; exact .of_stepCase .bound false rfl
  | bdRx => cases h; exact .of_stepCase .bound true rfl
  | slNop => cases h; exact .of_stepCase .signalLost false rfl
  | tCfgrx _ | tSetch _ | tPoll | tClrf | tEmpty | tFlushrx | tFlushtx => cases h; exact .command rfl rfl
  | tRead => cases h; exact .read
  | bind _ | data _ _ => cases h; exact .of_frameOp _ rfl
  | sdecode f => cases h; exact .sdecode f
  | adv n => cases h; exact .adv n
  | avoid16 _ | derive _ _ _ | probegen | crcchk _ | idmatch _ _ | fclass _ | stkdec _ | trimdec _ | elapsed _ _ =>
    cases h; exact .function rfl

/-! ### No operation writes the parameters -/

theorem CaseOutcome.params {s : State} {st : FsmState} {p : Bool} {r : Status × State} (h : CaseOutcome s st p r) :
    r.2.params = s.params := by
  obtain ⟨-, -, hp, -⟩ := h.frame
  exact hp

theorem FrameOutcome.params {f : Frame} {s u : State} (h : FrameOutcome f s u) : u.params = s.params := by
  cases h <;> simp [capture_eq]

theorem exec_params {i : Instr} {s t : State} (h : exec i s = .next t) : t.params = s.params := by
  cases exec_outcome h with
  | step _ hr => exact hr.params
  | selected _ hr => exact hr.params
  | read =>
    obtain ⟨-, -, -, hp, -⟩ := txRead_frame s
    exact hp
  | frame _ hu => exact hu.params
  | adv n => exact adv_params n s
  | init | command | function | sdecode => rfl

end Sys2Proof.Machine

namespace Sys2Proof.Proofs

open Sys2Proof.Machine

/-- Settles O49: the parameters are unchanged by every outcome of an operation, and `PROBE` depends on them alone. -/
theorem tablesAreConstants : Obligations.TablesAreConstants := by
  intro i s t h
  have hp : t.params = s.params := exec_params h
  exact ⟨hp, by rw [State.probe_eq, State.probe_eq, hp], fun hw => hp ▸ hw⟩

/-- Settles O10: the id's sum 6 selects row 2 with increment 1, and 0x12 is no multiple of 16. -/
theorem sourceIdFirstChannel : Obligations.SourceIdFirstChannel := by
  intro p hp
  have h0 : p.hopBase[2][0] = 0x11 := (hopBaseOk_iff p).1 hp
  have hrow : idRow (idSum 0x01 0x02 0x03) = 2 := by decide
  have hinc : idInc (idSum 0x01 0x02 0x03) = 1 := by decide
  calc (deriveHop p.hopBase 0x01 0x02 0x03)[0]
      = avoid16 (p.hopBase[2][0] + 1) := by simp only [deriveHop_getElem, hrow, hinc]; rfl
    _ = 0x12 := by rw [h0]; decide

/-- Settles O40: only STEP has a guard, and its guard is the premise. -/
theorem everyOperationCompletes : Obligations.EveryOperationCompletes := by
  intro i s h
  cases i with
  | step => exact ⟨_, exec_step_of_initialised (h rfl)⟩
  | _ => exact ⟨_, rfl⟩

end Sys2Proof.Proofs
end

section
/-! PROOFS, family 10_state.md. Which register each kind of outcome may write, said once per outcome and then of every
operation (`STATE`, the identity `TXID` and `HOP`, `STATUS`, the sticks); the invariants of R45, one constructor per
state of the block; and the statements about the state that follow. -/

namespace Sys2Proof.Machine

/-! ### No channel the engine derives is a multiple of 16 (R191) -/

theorem avoid16_mod_ne_zero (v : Byte) : (avoid16 v).toNat % 16 ≠ 0 := by
  rw [avoid16_toNat]
  split <;> omega

theorem nibblesNonzero_deriveHop (hb : HopBase) (t0 t1 t2 : Byte) : NibblesNonzero (deriveHop hb t0 t1 t2) := by
  intro i
  rw [Fin.getElem_fin, deriveHop_getElem]
  exact avoid16_mod_ne_zero _

theorem nibblesNonzero_probegen (p : Params) : NibblesNonzero (probegen p) := by
  intro i
  rw [Fin.getElem_fin, probegen, Vector.getElem_ofFn]
  exact avoid16_mod_ne_zero _

/-! ### `STATE` is written only by a capture and by a synchronisation (R22) -/

theorem CaseOutcome.fsm {s : State} {st : FsmState} {p : Bool} {r : Status × State} (h : CaseOutcome s st p r) :
    r.2.fsm = s.fsm ∨ st = .noBind ∧ r.2.fsm = .waitFirstSynchro ∨ st = .waitFirstSynchro ∧ r.2.fsm = .bound := by
  cases h with
  | nbCaptures => exact .inr (.inl ⟨rfl, rfl⟩)
  | wsSynchronises => exact .inr (.inr ⟨rfl, rfl⟩)
  | _ => exact .inl rfl

theorem FrameOutcome.fsm {f : Frame} {s u : State} (h : FrameOutcome f s u) :
    u.fsm = s.fsm ∨ u.fsm = .waitFirstSynchro ∨ u.fsm = .bound := by
  cases h with
  | captured => exact .inr (.inl rfl)
  | synchronised => exact .inr (.inr rfl)
  | _ => exact .inl rfl

/-- What any operation can leave in `STATE`. -/
theorem exec_fsm {i : Instr} {s t : State} (h : exec i s = .next t) :
    t.fsm = s.fsm ∨ t.fsm = .noBind ∨ t.fsm = .waitFirstSynchro ∨ t.fsm = .bound := by
  cases exec_outcome h with
  | init => exact .inr (.inl rfl)
  | step _ hr | selected _ hr => exact hr.fsm.imp id (.inr ∘ Or.imp And.right And.right)
  | read => exact .inl (txRead_frame s).left
  | frame _ hu => exact hu.fsm.imp id .inr
  | command | function | sdecode | adv => exact .inl rfl

/-! ### `TXID` and `HOP` are written only by a capture (R25, R27, R163) -/

/-- `t` was left by a capture: an acceptable bind frame stands in `FRAME`, and id, table, cursor, time reference and
state are those of CAPTURE at time `now` with the constant `hb`. -/
structure Captured (now : Tick) (hb : HopBase) (t : State) : Prop where
  fsm : t.fsm = .waitFirstSynchro
  cur : t.cur = 0
  last : t.last = now
  hop : t.hop = deriveId hb t.txid
  txid : t.txid = frameId t.frame
  bindable : bindable t.frame = true

theorem captured_capture (now : Tick) {s : State} (hf : bindable s.frame = true) :
    Captured now s.params.hopBase (capture now s) := by
  constructor <;> simp [capture_eq, hf]

/-- `TXID` and `HOP` are as they were. -/
def SameIdentity (s t : State) : Prop := t.txid = s.txid ∧ t.hop = s.hop

theorem CaseOutcome.identity {s : State} {st : FsmState} {p : Bool} {r : Status × State} (h : CaseOutcome s st p r) :
    SameIdentity s r.2 ∨ Captured s.env.now s.params.hopBase r.2 ∧ st = .noBind ∧ p = true := by
  cases h with
  | nbCaptures pre f _ _ _ hf => exact .inr ⟨captured_capture s.env.now (s := afterFirstBind pre f s) hf, rfl, rfl⟩
  | _ => exact .inl ⟨rfl, rfl⟩

theorem FrameOutcome.identity {f : Frame} {s u : State} (h : FrameOutcome f s u) :
    SameIdentity s u ∨ Captured s.env.now s.params.hopBase u := by
  cases h with
  | captured _ hf => exact .inr (captured_capture s.env.now (s := s.setFrame f) hf)
  | _ => exact .inl ⟨rfl, rfl⟩

/-- Fields that `Captured` does not look at may be written after the capture. -/
theorem Captured.congr {now : Tick} {hb : HopBase} {u t : State} (h : Captured now hb u) (h1 : t.fsm = u.fsm)
    (h2 : t.cur = u.cur) (h3 : t.last = u.last) (h4 : t.hop = u.hop) (h5 : t.txid = u.txid)
    (h6 : t.frame = u.frame) : Captured now hb t := by
  obtain ⟨hs, hc, hl, hh, ht, hf⟩ := h
  constructor <;> simp only [h1, h2, h3, h4, h5, h6] <;> assumption

theorem exec_identity {i : Instr} {s t : State} (h : exec i s = .next t) :
    SameIdentity s t ∨ Captured s.env.now s.params.hopBase t ∧ (i = .step ∨ i = .nbRx ∨ i.format = .frame) := by
  cases exec_outcome h with
  | step _ hr =>
    rcases hr.identity with hs | ⟨hc, -, -⟩
    · exact .inl hs
    · exact .inr ⟨hc.congr rfl rfl rfl rfl rfl rfl, .inl rfl⟩
  | selected hi hr =>
    rcases hr.identity with hs | ⟨hc, rfl, rfl⟩
    · exact .inl hs
    · exact .inr ⟨hc.congr rfl rfl rfl rfl rfl rfl, .inr (.inl (Except.ok.inj hi).symm)⟩
  | read =>
    obtain ⟨-, ht, hh, -⟩ := txRead_frame s
    exact .inl ⟨ht, hh⟩
  | frame hi hu =>
    rcases hu.identity with hs | hc
    · exact .inl hs
    · exact .inr ⟨hc.congr rfl rfl rfl rfl rfl rfl, .inr (.inr hi)⟩
  | init | command | function | sdecode | adv => exact .inl ⟨rfl, rfl⟩

/-- The table after an operation is the old one or a derived one. -/
theorem exec_hop {i : Instr} {s t : State} (h : exec i s = .next t) :
    t.hop = s.hop ∨ t.hop = deriveId s.params.hopBase t.txid := by
  rcases exec_identity h with ⟨-, hh⟩ | ⟨hc, -⟩
  · exact .inl hh
  · exact .inr hc.hop

/-! ### `STATUS` and the sticks (R42) -/

theorem FrameOutcome.status {f : Frame} {s u : State} (h : FrameOutcome f s u) : u.status = s.status := by
  cases h <;> rfl

theorem exec_status {i : Instr} {s t : State} (h : exec i s = .next t) : i.format = .hcmd ∨ t.status = s.status := by
  cases exec_outcome h with
  | init | step => exact .inl rfl
  | selected _ hr =>
    obtain ⟨-, hst, -⟩ := hr.frame
    exact .inr hst
  | read =>
    obtain ⟨-, -, -, -, hst, -⟩ := txRead_frame s
    exact .inr hst
  | frame _ hu => exact .inr hu.status
  | command | function | sdecode | adv => exact .inr rfl

theorem CaseOutcome.sticks {s : State} {st : FsmState} {p : Bool} {r : Status × State} (h : CaseOutcome s st p r) :
    r.2.sticks = s.sticks ∨ st = .bound ∧ p = true := by
  cases h with
  | bdAccepts => exact .inr ⟨rfl, rfl⟩
  | _ => exact .inl rfl

theorem exec_sticks {i : Instr} {s t : State} (h : exec i s = .next t) :
    t.sticks = s.sticks ∨ i = .step ∨ i = .bdRx ∨ i.format = .frame ∨ ∃ f, i = .sdecode f := by
  cases exec_outcome h with
  | step => exact .inr (.inl rfl)
  | selected hi hr =>
    rcases hr.sticks with hs | ⟨rfl, rfl⟩
    · exact .inl hs
    · exact .inr (.inr (.inl (Except.ok.inj hi).symm))
  | read =>
    obtain ⟨-, -, -, -, -, hs⟩ := txRead_frame s
    exact .inl hs
  | frame hi => exact .inr (.inr (.inr (.inl hi)))
  | sdecode f => exact .inr (.inr (.inr (.inr ⟨f, rfl⟩)))
  | init | command | function | adv => exact .inl rfl

/-! ### The invariants of R45, by the state of the block -/

theorem Inv.of_noBind {s : State} (hs : s.fsm = .noBind) (hc : s.cur ≤ 7)
    (hr : s.env.radioCh = s.probe[s.cur.toNat % 8]'(Nat.mod_lt _ (by decide))) (he : s.err = 0) : Inv s where
  probing _ := ⟨hc, hr⟩
  waiting := by simp [hs]
  hopping := by simp [hs]
  errTier := .inl he
  errZero _ := he
  derived := by simp [hs]
  probeNibbles := nibblesNonzero_probegen s.params
  hopNibbles := by simp [hs]
  reachable := by simp [hs]

theorem Inv.of_waiting {s : State} (hs : s.fsm = .waitFirstSynchro) (hc : s.cur = 0) (hr : s.env.radioCh = s.hop[0])
    (he : s.err = 0) (hd : s.hop = deriveId s.params.hopBase s.txid) : Inv s where
  probing := by simp [hs]
  waiting _ := ⟨hc, hr⟩
  hopping := by simp [hs]
  errTier := .inl he
  errZero _ := he
  derived _ := hd
  probeNibbles := nibblesNonzero_probegen s.params
  hopNibbles _ := hd ▸ nibblesNonzero_deriveHop _ _ _ _
  reachable := by simp [hs]

theorem Inv.of_bound {s : State} (hs : s.fsm = .bound) (hr : s.env.radioCh = s.hop[s.cur.toNat]'s.cur.isLt)
    (he : s.err = 0 ∨ s.err = 1) (hd : s.hop = deriveId s.params.hopBase s.txid) : Inv s where
  probing := by simp [hs]
  waiting := by simp [hs]
  hopping _ := hr
  errTier := he
  errZero := by simp [hs]
  derived _ := hd
  probeNibbles := nibblesNonzero_probegen s.params
  hopNibbles _ := hd ▸ nibblesNonzero_deriveHop _ _ _ _
  reachable := by simp [hs]

/-- INIT establishes the invariants from every state. -/
theorem inv_initOp (s : State) : Inv (initOp s) := .of_noBind rfl (by decide : (0 : Cursor) ≤ 7) rfl rfl

/-- An advance over PROBE in NO_BIND, and a new time reference. -/
theorem Inv.adv_probe {s : State} (h : Inv s) (hs : s.fsm = .noBind) (now : Tick) :
    Inv ((adv .probe s).setLast now) := by
  have hc : (nextCursor .probe s.cur).toNat ≤ 7 := by
    rw [nextCursor_probe_toNat]
    omega
  exact .of_noBind hs hc rfl (h.errZero (.inl hs))

/-- Every outcome of the step case that `STATE` selects keeps the invariants. -/
theorem CaseOutcome.inv {s : State} {st : FsmState} {p : Bool} {r : Status × State} (h : CaseOutcome s st p r)
    (hs : s.fsm = st) (hi : Inv s) : Inv r.2 := by
  cases h with
  | nbStays | wsStays | bdStays | slNothing => exact hi
  | nbDiscards | wsDiscards | bdDiscards => exact hi.congr rfl rfl rfl rfl rfl rfl rfl
  | nbAdvances => exact hi.adv_probe hs _
  | nbCaptures => exact .of_waiting rfl rfl rfl (hi.errZero (.inl hs)) rfl
  | wsSynchronises => exact .of_bound rfl rfl hi.errTier (hi.derived (.inl hs))
  | bdNudges => exact .of_bound hs rfl (.inr rfl) (hi.derived (.inr hs))
  | bdHunts => exact .of_bound hs rfl hi.errTier (hi.derived (.inr hs))
  | bdAccepts => exact .of_bound hs rfl (.inl rfl) (hi.derived (.inr hs))

/-- STEP keeps the invariants. -/
theorem inv_execStep {s t : State} (h : exec .step s = .next t) (hi : Inv s) : Inv t := by
  obtain ⟨-, r, hr, rfl⟩ := execStep_outcome h
  have hp : Inv (polled s) := hi.congr rfl rfl rfl rfl rfl rfl rfl
  exact (hr.inv rfl hp).congr rfl rfl rfl rfl rfl rfl rfl

/-! ### The queue of commands -/

theorem exec_hcmd_inputs {i : Instr} {s t : State} (hi : i = .init ∨ i = .step) (h : exec i s = .next t) :
    t.inputs = s.inputs := by
  rcases hi with rfl | rfl
  · cases h; rfl
  · obtain ⟨-, r, hr, rfl⟩ := execStep_outcome h
    obtain ⟨-, -, -, -, hin, -⟩ := hr.frame
    exact hin

theorem inv_exec_hcmd {i : Instr} {s t : State} (hi : i = .init ∨ i = .step) (h : exec i s = .next t) (hs : Inv s) :
    Inv t := by
  rcases hi with rfl | rfl
  · cases h; exact inv_initOp s
  · exact inv_execStep h hs

/-- A step of a machine driven by the host keeps the invariants, and the rest of the queue is the host's too. -/
theorem inv_hostDriven_step {s t : State} (hs : Inv s) (hd : HostDriven s) (h : step s = .next t) :
    Inv t ∧ HostDriven t := by
  rcases step_cases h with ⟨rfl, -⟩ | ⟨l, rest, i, hin, -, hdec, hex⟩
  · exact ⟨hs, hd⟩
  · rw [HostDriven, hin, List.forall_mem_cons] at hd
    obtain ⟨hl, hrest⟩ := hd
    have hi : i = .init ∨ i = .step := decode_hcmd hl hdec
    have hq : t.inputs = rest := exec_hcmd_inputs hi hex
    have htaken : Inv (takeLine l rest s) := hs.congr rfl rfl rfl rfl rfl rfl rfl
    exact ⟨inv_exec_hcmd hi hex htaken, by rwa [HostDriven, hq]⟩

/-! ### Sequencing (R32) -/

/-- BOUND accepts some payload of the pass, in the numbers of R93. -/
theorem boundAccepted_ne_nil_iff (s : State) :
    boundAccepted s ≠ [] ↔ ∃ f ∈ readable s, crcchk f = true ∧ #v[f[7], f[8], f[9]] = s.txid := by
  simp only [boundAccepted, ne_eq, List.filter_eq_nil_iff, not_forall, not_not, exists_prop, Bool.and_eq_true,
    idmatch_iff]

end Sys2Proof.Machine

namespace Sys2Proof.Proofs

open Sys2Proof.Machine

/-- Settles O46: the invariants are those of one state of the block at a time, every outcome of the selected case keeps
them, and a table is the old one or a derived one. -/
theorem hostStepsKeepTheInvariants : Obligations.HostStepsKeepTheInvariants := by
  refine ⟨fun s t h => ?_, fun s t hs hd h => inv_hostDriven_step hs hd h, fun i s t hn h => ?_⟩
  · cases h
    exact inv_initOp s
  · rcases exec_hop h with hh | hh <;> rw [hh]
    · exact hn
    · exact nibblesNonzero_deriveHop _ _ _ _

/-- Settles O44: each outcome of the selected case moves `STATE` and `CUR` as its condition says. -/
theorem sequencingByCase : Obligations.SequencingByCase := by
  refine ⟨fun s => ⟨_, rfl, rfl, rfl⟩, fun s e hi he hnow => ?_⟩
  have hx : (elapsed s.env.now s.last).toNat = e := elapsed_toNat he hnow
  have hprobe := probeFires_iff (b := s.params.probeCmpStrict) (x := elapsed s.env.now s.last)
  have hnudge := nudgeFires_iff (a := s.err) (x := elapsed s.env.now s.last)
  have hhunt := huntFires_iff (a := s.err) (x := elapsed s.env.now s.last)
  rw [hx] at hprobe hnudge hhunt
  obtain ⟨-, r, hr, ht⟩ := execStep_outcome (exec_step_of_initialised hi)
  refine ⟨_, exec_step_of_initialised hi, ?_⟩
  rw [ht]
  generalize hst : s.fsm = st at hr ⊢
  generalize s.env.rxPending = p at hr ⊢
  cases hr with
  | nbStays h => exact ⟨hst, (if_neg (hprobe.not.1 (Bool.eq_false_iff.1 h))).symm⟩
  | nbAdvances h => exact ⟨hst, (nextCursor_probe_toNat s.cur).trans (if_pos (hprobe.1 h)).symm⟩
  | nbDiscards h =>
    have hn : ¬ ∃ f ∈ readable s, crcchk f = true ∧ f[14] = 0xC0 := by
      rintro ⟨f, hm, hf⟩
      exact Bool.eq_false_iff.1 (h f hm) ((bindable_iff f).2 hf)
    rw [if_neg hn]
    exact ⟨hst, rfl⟩
  | nbCaptures pre f post h _ hf =>
    have hp : ∃ f ∈ readable s, crcchk f = true ∧ f[14] = 0xC0 :=
      ⟨f, h ▸ List.mem_append_right pre List.mem_cons_self, (bindable_iff f).1 hf⟩
    rw [if_pos hp]
    exact ⟨rfl, rfl⟩
  | wsStays => exact ⟨hst, rfl⟩
  | wsDiscards h =>
    have hn : ¬ ∃ f ∈ readable s, crcchk f = true := fun hf => Bool.eq_false_iff.1 h (List.any_eq_true.2 hf)
    rw [if_neg hn]
    exact ⟨hst, rfl⟩
  | wsSynchronises h =>
    have hp : ∃ f ∈ readable s, crcchk f = true := List.any_eq_true.1 h
    rw [if_pos hp]
    exact ⟨rfl, nextCursor_hop_toNat s.cur⟩
  | bdStays h1 h2 =>
    have hn : ¬ (s.err = 0 ∧ 10 < e ∨ s.err ≠ 0 ∧ 140 < e) := by
      rw [← hnudge, ← hhunt, not_or]
      exact ⟨Bool.eq_false_iff.1 h1, Bool.eq_false_iff.1 h2⟩
    exact ⟨hst, (if_neg hn).symm⟩
  | bdNudges _ h => exact ⟨hst, (nextCursor_hop_toNat s.cur).trans (if_pos (.inl (hnudge.1 h))).symm⟩
  | bdHunts _ h => exact ⟨hst, (nextCursor_hop_toNat s.cur).trans (if_pos (.inr (hhunt.1 h))).symm⟩
  | bdDiscards h => exact ⟨hst, (if_neg fun hf => (boundAccepted_ne_nil_iff s).2 hf h).symm⟩
  | bdAccepts h =>
    exact ⟨hst, (nextCursor_hop_toNat s.cur).trans (if_pos ((boundAccepted_ne_nil_iff s).1 h)).symm⟩
  | slNothing => exact ⟨hst, rfl⟩

/-- Settles O47: only a capture and a synchronisation write `STATE`, and neither writes SIGNAL_LOST. -/
theorem onlyTheListedTransitions : Obligations.OnlyTheListedTransitions := by
  refine ⟨fun s t h => ?_, fun s t h => ?_, fun i s t h hlost => ?_⟩
  · cases h
    rfl
  · obtain ⟨-, r, hr, rfl⟩ := execStep_outcome h
    exact hr.fsm
  · rcases exec_fsm h with hs | hs | hs | hs <;> rw [hs] at hlost
    · exact hlost
    all_goals cases hlost

/-- Settles O48: a capture is the one outcome that writes the identity. -/
theorem identityIsWrittenOnlyByCapture : Obligations.IdentityIsWrittenOnlyByCapture := by
  intro i s t h
  rcases exec_identity h with hs | ⟨hc, hi⟩
  · exact .inl hs
  · obtain ⟨hcrc, hmark⟩ := (bindable_iff t.frame).1 hc.bindable
    exact .inr ⟨hc.fsm, hc.cur, hc.last, hc.hop, hc.txid, hcrc, hmark, hi⟩

/-- Settles O50: from what each operation may write of `STATUS` and of the sticks. -/
theorem outputsAreWrittenOnlyWhereListed : Obligations.OutputsAreWrittenOnlyWhereListed := by
  refine ⟨fun i s t h hne => ?_, fun i s t h hne => ?_, fun s t h => ?_⟩
  · exact (exec_status h).resolve_right hne
  · exact (exec_sticks h).resolve_left hne
  · cases h
    exact ⟨rfl, rfl, rfl, rfl⟩

/-- Settles O35: INIT evaluated at the power-on state. -/
theorem resetIsPowerOnThenInit : Obligations.ResetIsPowerOnThenInit :=
  ⟨rfl, rfl, rfl, rfl, rfl, rfl, rfl, rfl⟩

/-- Settles O45: the reset state is one that INIT leaves, and no command waits in it. -/
theorem invariantsHoldAtReset : Obligations.InvariantsHoldAtReset :=
  ⟨inv_initOp State.powerOn, fun _ hl => nomatch hl⟩

end Sys2Proof.Proofs
end

section
/-! PROOFS, family 20_memory.md. A frame byte by byte and as one vector (R63, R91), and what a host command may put in
its trace (R61). -/

namespace Sys2Proof.Machine

/-! ### The bytes of a vector -/

/-- Byte `i` of a vector: its bits `[8i+7:8i]` (R63). -/
def byteAt {w : Nat} (v : BitVec w) (i : Nat) : Byte := v.extractLsb' (8 * i) 8

theorem byteAt_self (b : Byte) : byteAt b 0 = b := BitVec.extractLsb'_eq_self

theorem byteAt_append_zero {w : Nat} (x : BitVec w) (b : Byte) : byteAt (x ++ b) 0 = b :=
  BitVec.extractLsb'_append_eq_right

theorem byteAt_append_succ {w : Nat} (x : BitVec w) (b : Byte) (i : Nat) : byteAt (x ++ b) (i + 1) = byteAt x i :=
  extractLsb'_append_at (8 * i) (by omega)

/-- Byte `i` of a field that begins at byte `k` and is at least that long is byte `k + i` of the vector. -/
theorem byteAt_extractLsb' {w k l i : Nat} (v : BitVec w) (h : 8 * i + 8 ≤ l) :
    byteAt (v.extractLsb' (8 * k) l) i = byteAt v (k + i) := by
  simp only [byteAt, Nat.mul_add]
  ext j hj
  simp [show 8 * i + j < l by omega, Nat.add_assoc]

/-- A vector is determined by its bytes. -/
theorem eq_of_byteAt_eq {u v : BitVec 128} (h : ∀ i : Fin 16, byteAt u i = byteAt v i) : u = v := by
  refine BitVec.eq_of_getLsbD_eq fun j hj => ?_
  have hbyte : byteAt u (j / 8) = byteAt v (j / 8) := h ⟨j / 8, by omega⟩
  have hbit : (byteAt u (j / 8)).getLsbD (j % 8) = (byteAt v (j / 8)).getLsbD (j % 8) := by rw [hbyte]
  simpa [byteAt, Nat.mod_lt, Nat.div_add_mod] using hbit

/-! ### The bytes of a frame -/

theorem byteAt_frameBits (f : Frame) (i : Fin 16) : byteAt (frameBits f) i = f[i] := by
  fin_cases i <;> simp [frameBits, byteAt_append_succ, byteAt_append_zero, byteAt_self]

/-- The frame of a vector's fields has the vector's bytes; the bytes of RSV are its bytes 10 to 13 (R91). -/
theorem frameOf_getElem (v : BitVec 128) (i : Fin 16) : (frameOf (frameBodyOf v) (frameMark v))[i] = byteAt v i := by
  have hrsv (k : Nat) (hk : 8 * k + 8 ≤ 32) : byteAt (frameBodyOf v).rsv k = byteAt v (10 + k) :=
    byteAt_extractLsb' (k := 10) v hk
  match i with
  | 0 | 1 | 2 | 3 | 4 | 5 | 6 | 7 | 8 | 9 | 14 | 15 => rfl
  | 10 => exact hrsv 0 (by decide)
  | 11 => exact hrsv 1 (by decide)
  | 12 => exact hrsv 2 (by decide)
  | 13 => exact hrsv 3 (by decide)
  | ⟨n + 16, hn⟩ => omega

/-! ### What a host command may put in its trace -/

/-- Not T_FLUSHTX, and no channel that is a multiple of 16 (R61, R277). -/
def Permitted (e : TxEvent) : Prop := e ≠ .flushtx ∧ ∀ ch, eventChannel e = some ch → ch.toNat % 16 ≠ 0

@[simp] theorem permitted_cfgrx (ch : Byte) : Permitted (.cfgrx ch) ↔ ch.toNat % 16 ≠ 0 := by
  simp [Permitted, eventChannel]

@[simp] theorem permitted_setch (ch : Byte) : Permitted (.setch ch) ↔ ch.toNat % 16 ≠ 0 := by
  simp [Permitted, eventChannel]

/-- A command that carries no channel is permitted, but for T_FLUSHTX. -/
theorem permitted_of_eventChannel_none {e : TxEvent} (hf : e ≠ .flushtx) (h : eventChannel e = none) : Permitted e :=
  ⟨hf, by simp [h]⟩

@[simp] theorem permitted_poll (a : Bool) : Permitted (.poll a) := permitted_of_eventChannel_none nofun rfl
@[simp] theorem permitted_clrf : Permitted .clrf := permitted_of_eventChannel_none nofun rfl
@[simp] theorem permitted_empty (a : Bool) : Permitted (.empty a) := permitted_of_eventChannel_none nofun rfl
@[simp] theorem permitted_read (f : Frame) : Permitted (.read f) := permitted_of_eventChannel_none nofun rfl
@[simp] theorem permitted_flushrx : Permitted .flushrx := permitted_of_eventChannel_none nofun rfl

/-- Every command of the trace is permitted. -/
def TracePermitted (s : State) : Prop := ∀ e ∈ s.trace, Permitted e

/-- Commands that join a permitted trace. -/
theorem TracePermitted.append {s t : State} {l : List TxEvent} (h : TracePermitted s) (ht : t.trace = s.trace ++ l)
    (hl : ∀ e ∈ l, Permitted e) : TracePermitted t := by
  rw [TracePermitted, ht]
  exact List.forall_mem_append.2 ⟨h, hl⟩

theorem permitted_readEvents (f : Frame) : ∀ e ∈ readEvents f, Permitted e := by simp [readEvents]

theorem permitted_reads (fs : List Frame) : ∀ e ∈ fs.flatMap readEvents, Permitted e := by
  simp only [List.mem_flatMap]
  rintro e ⟨f, -, he⟩
  exact permitted_readEvents f e he

theorem permitted_passTrace (s : State) : ∀ e ∈ passTrace s, Permitted e := by
  have hclose : ∀ e ∈ closing (limitHit s), Permitted e := by cases limitHit s <;> simp [closing]
  rw [passTrace, List.forall_mem_cons, List.forall_mem_append]
  exact ⟨permitted_clrf, permitted_reads _, hclose⟩

theorem TracePermitted.afterPass {s : State} (h : TracePermitted s) : TracePermitted (afterPass s) :=
  h.append rfl (permitted_passTrace s)

theorem TracePermitted.afterFirstBind {s : State} (h : TracePermitted s) (pre : List Frame) (f : Frame) :
    TracePermitted (afterFirstBind pre f s) :=
  h.append rfl (List.forall_mem_cons.2 ⟨permitted_clrf,
    List.forall_mem_append.2 ⟨permitted_reads pre, permitted_readEvents f⟩⟩)

theorem TracePermitted.capture {s : State} (h : TracePermitted s) (now : Tick) : TracePermitted (capture now s) := by
  have hch : (deriveId s.params.hopBase (frameId s.frame))[0].toNat % 16 ≠ 0 := nibblesNonzero_deriveHop _ _ _ _ 0
  rw [capture_eq]
  exact h.append rfl (by simpa using hch)

theorem TracePermitted.adv_probe {s : State} (h : TracePermitted s) : TracePermitted (adv .probe s) := by
  have hch : (channelAt .probe (nextCursor .probe s.cur) s).toNat % 16 ≠ 0 :=
    nibblesNonzero_probegen s.params ⟨_, Nat.mod_lt _ (by decide)⟩
  exact h.append (adv_trace .probe s) (by simpa using hch)

theorem TracePermitted.adv_hop {s : State} (h : TracePermitted s) (hn : NibblesNonzero s.hop) :
    TracePermitted (adv .hop s) := by
  have hch : (channelAt .hop (nextCursor .hop s.cur) s).toNat % 16 ≠ 0 := hn ⟨_, (nextCursor .hop s.cur).isLt⟩
  exact h.append (adv_trace .hop s) (by simpa using hch)

/-- A step case adds permitted commands: its channels come from PROBE, from a table being derived, or from HOP in a
state that has one. -/
theorem CaseOutcome.tracePermitted {s : State} {st : FsmState} {p : Bool} {r : Status × State}
    (h : CaseOutcome s st p r) (hn : st = .waitFirstSynchro ∨ st = .bound → NibblesNonzero s.hop)
    (ht : TracePermitted s) : TracePermitted r.2 := by
  cases h with
  | nbStays | wsStays | bdStays | slNothing => exact ht
  | nbDiscards | wsDiscards | bdDiscards => exact ht.afterPass
  | nbAdvances => exact ht.adv_probe
  | nbCaptures pre f => exact (ht.afterFirstBind pre f).capture _
  | wsSynchronises => exact ht.afterPass.adv_hop (s := (afterPass s).setLast _) (hn (.inl rfl))
  | bdNudges => exact ht.adv_hop (s := (s.setErr 1).setLast _) (hn (.inr rfl))
  | bdHunts => exact ht.adv_hop (hn (.inr rfl))
  | bdAccepts => exact ht.afterPass.adv_hop (s := { afterPass s with err := 0, sticks := _ }) (hn (.inr rfl))

theorem tracePermitted_initOp (s : State) : TracePermitted (initOp s) := by
  have hch : s.probe[0].toNat % 16 ≠ 0 := nibblesNonzero_probegen s.params 0
  have htrace : (initOp s).trace = [.cfgrx s.probe[0]] := rfl
  rw [TracePermitted, htrace]
  simpa using hch

theorem tracePermitted_polled (s : State) : TracePermitted (polled s) := by
  rw [TracePermitted, polled]
  split <;> simp

/-- INIT and STEP leave a permitted trace, whatever stood there before. -/
theorem tracePermitted_exec_hcmd {i : Instr} {s t : State} (hi : i = .init ∨ i = .step) (h : exec i s = .next t)
    (hs : Inv s) : TracePermitted t := by
  rcases hi with rfl | rfl
  · cases h; exact tracePermitted_initOp s
  · obtain ⟨-, r, hr, rfl⟩ := execStep_outcome h
    exact hr.tracePermitted hs.hopNibbles (tracePermitted_polled s)

end Sys2Proof.Machine

namespace Sys2Proof.Proofs

open Sys2Proof.Machine

/-- Settles O4: the bytes of a frame stand at their places in its vector, and a vector is determined by its bytes. -/
theorem frameByteIsItsEightBits : Obligations.FrameByteIsItsEightBits :=
  ⟨byteAt_frameBits, fun v => eq_of_byteAt_eq fun i => (byteAt_frameBits _ i).trans (frameOf_getElem v i)⟩

/-- Settles O51: the command is INIT or STEP, and either begins its trace anew and adds only permitted commands. -/
theorem commandedChannelsAreNoMultipleOfSixteen : Obligations.CommandedChannelsAreNoMultipleOfSixteen := by
  intro s t l rest hs hd hin h
  rcases step_cases h with ⟨-, hnil⟩ | ⟨l', rest', i, hin', -, hdec, hex⟩
  · cases hin.symm.trans hnil
  · have hi : i = .init ∨ i = .step := decode_hcmd (hd l' (hin' ▸ List.mem_cons_self)) hdec
    exact tracePermitted_exec_hcmd hi hex (hs.congr rfl rfl rfl rfl rfl rfl rfl)

end Sys2Proof.Proofs
end

section
/-! PROOFS, family 30_encoding.md. The decoder on the bits of a word of each format (R90 to R96), the mask and match of
R92 by bytes, and R93: what one frame by itself does, in each state and by whether the state accepts it. -/

namespace Sys2Proof

open Machine

/-! ### The decoder on a word within its format's width -/

/-- A number below `2 ^ n` is a word of `n` bits. -/
theorem exists_toNat_eq {n k : Nat} (h : k < 2 ^ n) : ∃ v : BitVec n, v.toNat = k :=
  ⟨.ofNatLT k h, BitVec.toNat_ofNatLT k h⟩

theorem wf_of_lt {fmt : Format} {bits : Nat} (h : bits < 2 ^ fmt.width) : OpWord.wf ⟨fmt, bits⟩ = true :=
  decide_eq_true h

theorem decode_hcmdWord (v : BitVec 1) : decode ⟨.hcmd, v.toNat⟩ = .ok (decodeHcmd v) := by
  simp [decode, wf_of_lt (fmt := .hcmd) v.isLt]

theorem decode_selWord (v : BitVec 3) : decode ⟨.sel, v.toNat⟩ = .ok (decodeSel v) := by
  simp [decode, wf_of_lt (fmt := .sel) v.isLt]

theorem decode_tcmdWord (v : BitVec 11) : decode ⟨.tcmd, v.toNat⟩ = .ok (decodeTcmd v) := by
  simp [decode, wf_of_lt (fmt := .tcmd) v.isLt]

theorem decode_frameWord (v : BitVec 128) : decode ⟨.frame, v.toNat⟩ = .ok (decodeFrame v) := by
  simp [decode, wf_of_lt (fmt := .frame) v.isLt]

/-- A word with a bit above its format's width is rejected as such. -/
theorem decode_of_not_wf {w : OpWord} (hf : w.fmt ≠ .func) (h : w.wf = false) :
    decode w = .error (.wordTooWide w.fmt) := by
  obtain ⟨fmt, bits⟩ := w
  cases fmt with
  | func => exact absurd rfl hf
  | hcmd | sel | tcmd | frame => simp [decode, h]

/-! ### What the decoder selects -/

/-- MARK decides the class of a well-formed frame (R92). -/
theorem wf_data_iff (b : FrameBody) (m : Byte) : (Instr.data b m).wf = true ↔ m ≠ Config.bindMark := bne_iff_ne

/-- A well-formed operation of a format. -/
def Instr.IsOf (fmt : Format) (i : Instr) : Prop := i.format = fmt ∧ i.wf = true

theorem decodeHcmd_isOf (v : BitVec 1) : (decodeHcmd v).IsOf .hcmd := by
  unfold decodeHcmd
  split <;> exact ⟨rfl, rfl⟩

theorem decodeSel_isOf (v : BitVec 3) : (decodeSel v).IsOf .sel := by
  unfold decodeSel
  split <;> exact ⟨rfl, rfl⟩

theorem decodeTcmd_isOf (v : BitVec 11) : (decodeTcmd v).IsOf .tcmd := by
  unfold decodeTcmd
  split <;> exact ⟨rfl, rfl⟩

theorem decodeFrame_of_bindMark {v : BitVec 128} (h : frameMark v = Config.bindMark) :
    decodeFrame v = .bind (frameBodyOf v) := if_pos h

theorem decodeFrame_of_ne {v : BitVec 128} (h : frameMark v ≠ Config.bindMark) :
    decodeFrame v = .data (frameBodyOf v) (frameMark v) := if_neg h

theorem decodeFrame_isOf (v : BitVec 128) : (decodeFrame v).IsOf .frame := by
  by_cases h : frameMark v = Config.bindMark
  · rw [decodeFrame_of_bindMark h]
    exact ⟨rfl, rfl⟩
  · rw [decodeFrame_of_ne h]
    exact ⟨rfl, (wf_data_iff _ _).2 h⟩

/-- Every word within its format's width selects a well-formed operation of that format. -/
theorem exists_decode_isOf {fmt : Format} {bits : Nat} (hf : fmt ≠ .func) (h : bits < 2 ^ fmt.width) :
    ∃ i : Instr, decode ⟨fmt, bits⟩ = .ok i ∧ i.IsOf fmt := by
  obtain ⟨v, rfl⟩ := exists_toNat_eq h
  cases fmt with
  | func => exact absurd rfl hf
  | hcmd => exact ⟨_, decode_hcmdWord v, decodeHcmd_isOf v⟩
  | sel => exact ⟨_, decode_selWord v, decodeSel_isOf v⟩
  | tcmd => exact ⟨_, decode_tcmdWord v, decodeTcmd_isOf v⟩
  | frame => exact ⟨_, decode_frameWord v, decodeFrame_isOf v⟩

/-! ### The decoder on an encoded operation -/

theorem decodeTcmd_tcmdWord_cfgrx (ch : Byte) : decodeTcmd (tcmdWord 0 ch) = .tCfgrx ch := by
  simp [decodeTcmd, tcmdWord_code, tcmdWord_arg]

theorem decodeTcmd_tcmdWord_setch (ch : Byte) : decodeTcmd (tcmdWord 1 ch) = .tSetch ch := by
  simp [decodeTcmd, tcmdWord_code, tcmdWord_arg]

theorem decodeFrame_frameWord_bindMark (b : FrameBody) : decodeFrame (frameWord b Config.bindMark) = .bind b := by
  rw [decodeFrame_of_bindMark (frameMark_frameWord _ _), frameBodyOf_frameWord]

theorem decodeFrame_frameWord_of_ne {b : FrameBody} {m : Byte} (h : m ≠ Config.bindMark) :
    decodeFrame (frameWord b m) = .data b m := by
  rw [decodeFrame_of_ne (by rwa [frameMark_frameWord]), frameBodyOf_frameWord, frameMark_frameWord]

/-- A well-formed operation's word decodes to it. -/
theorem decode_of_encode {i : Instr} {w : OpWord} (hi : i.wf = true) (h : encode i = some w) : decode w = .ok i := by
  cases i with
  | init | step | nbHunt | nbRx | wsIdle | wsRx | bdHunt | bdRx | slNop => cases h; rfl
  | tPoll | tClrf | tEmpty | tRead | tFlushrx | tFlushtx => cases h; rfl
  | tCfgrx ch => cases h; rw [decode_tcmdWord, decodeTcmd_tcmdWord_cfgrx]
  | tSetch ch => cases h; rw [decode_tcmdWord, decodeTcmd_tcmdWord_setch]
  | bind b => cases h; rw [decode_frameWord, decodeFrame_frameWord_bindMark]
  | data b m => cases h; rw [decode_frameWord, decodeFrame_frameWord_of_ne ((wf_data_iff b m).1 hi)]
  | avoid16 | derive | probegen | crcchk | idmatch | fclass | stkdec | trimdec | sdecode | elapsed | adv => cases h

end Sys2Proof

namespace Sys2Proof.Machine

/-! ### Mask and match (R92) -/

theorem byteAt_and {w : Nat} (u v : BitVec w) (i : Nat) : byteAt (u &&& v) i = byteAt u i &&& byteAt v i :=
  BitVec.extractLsb'_and

/-- The mask keeps byte 14 alone. -/
theorem byteAt_mask (i : Fin 16) :
    byteAt 0x00FF0000000000000000000000000000#128 i = if i = 14 then BitVec.allOnes 8 else 0 := by
  revert i; decide

theorem byteAt_match (i : Fin 16) :
    byteAt 0x00C00000000000000000000000000000#128 i = if i = 14 then Config.bindMark else 0 := by
  revert i; decide

/-- Byte 14 of a masked vector is MARK, every other byte is zero. -/
theorem byteAt_and_mask (v : BitVec 128) (i : Fin 16) :
    byteAt (v &&& 0x00FF0000000000000000000000000000#128) i = if i = 14 then frameMark v else 0 := by
  rw [byteAt_and, byteAt_mask]
  split
  · subst i
    exact BitVec.and_allOnes
  · exact BitVec.and_zero

/-- Mask and match compare byte 14, which is MARK, with 0xC0. -/
theorem mask_eq_match_iff (v : BitVec 128) :
    v &&& 0x00FF0000000000000000000000000000#128 = 0x00C00000000000000000000000000000#128 ↔
      frameMark v = Config.bindMark := by
  constructor
  · intro h
    exact (byteAt_and_mask v 14).symm.trans (h ▸ byteAt_match 14)
  · intro h
    exact eq_of_byteAt_eq fun i => by rw [byteAt_and_mask, byteAt_match, h]

theorem frameMark_frameBits (f : Frame) : frameMark (frameBits f) = markByte f := byteAt_frameBits f 14

theorem fclass_eq_bind_iff (f : Frame) : fclass f = .bind ↔ markByte f = Config.bindMark := by
  rw [fclass, ite_eq_left_iff]
  simp

/-! ### The class of a frame run by itself -/

theorem fclass_frameOf_bindMark (b : FrameBody) : fclass (frameOf b Config.bindMark) = .bind := if_pos rfl

theorem fclass_frameOf_of_ne (b : FrameBody) {m : Byte} (h : m ≠ Config.bindMark) : fclass (frameOf b m) = .data :=
  if_neg h

theorem exec_bind (b : FrameBody) (s : State) : exec (.bind b) s = .next (frameOp (frameOf b Config.bindMark) s) := rfl

theorem exec_data (b : FrameBody) (m : Byte) (s : State) : exec (.data b m) s = .next (frameOp (frameOf b m) s) := rfl

/-! ### Which frames a state accepts (R93) -/

section
variable {f : Frame} {s u : State}

theorem accepts_of_noBind (hs : s.fsm = .noBind) : accepts s.fsm s.txid f = bindable f := by rw [hs]; rfl

theorem accepts_of_waiting (hs : s.fsm = .waitFirstSynchro) : accepts s.fsm s.txid f = crcchk f := by rw [hs]; rfl

theorem accepts_of_bound (hs : s.fsm = .bound) : accepts s.fsm s.txid f = (crcchk f && idmatch f s.txid) := by
  rw [hs]; rfl

theorem accepts_of_signalLost (hs : s.fsm = .signalLost) : accepts s.fsm s.txid f = false := by rw [hs]; rfl

/-- A frame of class DATA is no bind frame. -/
theorem bindable_of_data (h : fclass f = .data) : bindable f = false := by simp [bindable, h]

theorem bindable_of_bind (h : fclass f = .bind) : bindable f = crcchk f := by simp [bindable, h]

/-! ### Which outcome of a frame it is, by state and acceptance (R93) -/

/-- Every outcome but the discarded one needs acceptance or SIGNAL_LOST. -/
theorem FrameOutcome.eq_setFrame (ho : FrameOutcome f s u) (hs : s.fsm ≠ .signalLost)
    (h : accepts s.fsm s.txid f = false) : u = s.setFrame f := by
  cases ho with
  | discarded => rfl
  | captured hs' hb => cases ((accepts_of_noBind hs').trans hb).symm.trans h
  | synchronised hs' hc => cases ((accepts_of_waiting hs').trans hc).symm.trans h
  | credited hs' hc hid => rw [accepts_of_bound hs', hc, hid] at h; cases h
  | unread hs' => exact absurd hs' hs

theorem FrameOutcome.eq_capture (ho : FrameOutcome f s u) (hs : s.fsm = .noBind)
    (h : accepts s.fsm s.txid f = true) : u = capture s.env.now (s.setFrame f) := by
  cases ho with
  | captured => rfl
  | discarded _ hd => cases h.symm.trans hd
  | synchronised hs' | credited hs' | unread hs' => cases hs.symm.trans hs'

theorem FrameOutcome.eq_synchronised (ho : FrameOutcome f s u) (hs : s.fsm = .waitFirstSynchro)
    (h : accepts s.fsm s.txid f = true) : u = (adv .hop ((s.setFrame f).setLast s.env.now)).setFsm .bound := by
  cases ho with
  | synchronised => rfl
  | discarded _ hd => cases h.symm.trans hd
  | captured hs' | credited hs' | unread hs' => cases hs.symm.trans hs'

theorem FrameOutcome.eq_credited (ho : FrameOutcome f s u) (hs : s.fsm = .bound)
    (h : accepts s.fsm s.txid f = true) : u = (adv .hop { s with
      frame := f, err := 0, sticks := if fclass f = .data then sticksOf f else s.sticks }).setLast s.env.now := by
  cases ho with
  | credited => rfl
  | discarded _ hd => cases h.symm.trans hd
  | captured hs' | synchronised hs' | unread hs' => cases hs.symm.trans hs'

theorem FrameOutcome.eq_self (ho : FrameOutcome f s u) (hs : s.fsm = .signalLost) : u = s := by
  cases ho with
  | unread => rfl
  | discarded hs' => exact absurd hs hs'
  | captured hs' | synchronised hs' | credited hs' => cases hs.symm.trans hs'

/-! ### A frame's whole meaning by itself, as one record update -/

/-- A frame the state does not accept only lands in `FRAME`. -/
theorem frameOp_of_not_accepts (hs : s.fsm ≠ .signalLost) (h : accepts s.fsm s.txid f = false) :
    frameOp f s = { s with frame := f, result := .frame (fclass f) false } := by
  rw [frameOp, (frameAlone_outcome f s).eq_setFrame hs h, h]; rfl

theorem frameOp_of_signalLost (hs : s.fsm = .signalLost) :
    frameOp f s = { s with result := .frame (fclass f) false } := by
  rw [frameOp, (frameAlone_outcome f s).eq_self hs, accepts_of_signalLost hs]; rfl

theorem frameOp_of_noBind (hs : s.fsm = .noBind) (h : accepts s.fsm s.txid f = true) :
    frameOp f s = { s with
      frame := f, txid := frameId f, hop := deriveId s.params.hopBase (frameId f), cur := 0
      last := s.env.now, fsm := .waitFirstSynchro
      env := { s.env with rxFifo := [], radioCh := (deriveId s.params.hopBase (frameId f))[0] }
      trace := s.trace ++ [.setch (deriveId s.params.hopBase (frameId f))[0], .flushrx]
      result := .frame (fclass f) true } := by
  rw [frameOp, (frameAlone_outcome f s).eq_capture hs h, h, capture_eq]; rfl

theorem frameOp_of_waiting (hs : s.fsm = .waitFirstSynchro) (h : accepts s.fsm s.txid f = true) :
    frameOp f s = { s with
      frame := f, last := s.env.now, cur := nextCursor .hop s.cur, fsm := .bound
      env := { s.env with radioCh := s.hop[(nextCursor .hop s.cur).toNat] }
      trace := s.trace ++ [.setch s.hop[(nextCursor .hop s.cur).toNat]]
      result := .frame (fclass f) true } := by
  rw [frameOp, (frameAlone_outcome f s).eq_synchronised hs h, h]; rfl

theorem frameOp_of_bound (hs : s.fsm = .bound) (h : accepts s.fsm s.txid f = true) :
    frameOp f s = { s with
      frame := f, err := 0, last := s.env.now, cur := nextCursor .hop s.cur
      sticks := if fclass f = .data then sticksOf f else s.sticks
      env := { s.env with radioCh := s.hop[(nextCursor .hop s.cur).toNat] }
      trace := s.trace ++ [.setch s.hop[(nextCursor .hop s.cur).toNat]]
      result := .frame (fclass f) true } := by
  rw [frameOp, (frameAlone_outcome f s).eq_credited hs h, h]; rfl

end

/-- The cursor over HOP is the one with the number the statements give. -/
theorem eq_nextCursor_hop {c d : Cursor} (h : c.toNat = (d.toNat + 1) % 16) : c = nextCursor .hop d :=
  BitVec.eq_of_toNat_eq (h.trans (nextCursor_hop_toNat d).symm)

end Sys2Proof.Machine

namespace Sys2Proof.Proofs

open Sys2Proof.Machine

/-- Settles O1: by the operation; the fields of a command word and of a frame word are the operands that went in. -/
theorem operationWordsRoundTrip : Obligations.OperationWordsRoundTrip := fun _ _ => decode_of_encode

/-- Settles O2: a number within the width is a word of the format's bits, and each format's decoder is total on them. -/
theorem everyPortWordSelectsOneOperation : Obligations.EveryPortWordSelectsOneOperation :=
  ⟨fun _ _ hf h => exists_decode_isOf hf h, fun _ _ hf h => decode_of_not_wf hf (decide_eq_false h), fun _ => rfl⟩

/-- Settles O3: mask and match compare MARK with 0xC0, and so does the decoder. -/
theorem frameClassIsMaskAndMatch : Obligations.FrameClassIsMaskAndMatch := by
  refine ⟨fun f => ?_, fun v h => ?_, fun v h => ?_⟩
  · rw [mask_eq_match_iff, frameMark_frameBits, fclass_eq_bind_iff]
  · rw [decode_frameWord, decodeFrame_of_bindMark ((mask_eq_match_iff v).1 h)]
  · rw [decode_frameWord, decodeFrame_of_ne (mt (mask_eq_match_iff v).2 h)]

/-- Settles O18: NO_BIND accepts a frame exactly when it is a checksum-valid bind frame, SIGNAL_LOST accepts none. -/
theorem frameInNoBindOrSignalLost : Obligations.FrameInNoBindOrSignalLost := by
  refine ⟨fun b s f hf hs hc => ?_, fun b s f hf hs hc => ?_, fun b m s hm hs => ?_, fun b s hs => ?_,
    fun b m s hm hs => ?_⟩
  · subst hf
    have hcls := fclass_frameOf_bindMark b
    have ha := (accepts_of_noBind hs).trans ((bindable_of_bind hcls).trans hc)
    rw [exec_bind, frameOp_of_noBind hs ha, hcls]
    rfl
  · subst hf
    have hcls := fclass_frameOf_bindMark b
    have ha := (accepts_of_noBind hs).trans ((bindable_of_bind hcls).trans hc)
    rw [exec_bind, frameOp_of_not_accepts (by simp [hs]) ha, hcls]
  · have hcls := fclass_frameOf_of_ne b hm
    have ha := (accepts_of_noBind hs).trans (bindable_of_data hcls)
    rw [exec_data, frameOp_of_not_accepts (by simp [hs]) ha, hcls]
  · rw [exec_bind, frameOp_of_signalLost hs, fclass_frameOf_bindMark]
  · rw [exec_data, frameOp_of_signalLost hs, fclass_frameOf_of_ne b hm]

/-- Settles O19: either class runs the same pass over its frame, and what that does turns on acceptance. -/
theorem frameInWaitOrBound : Obligations.FrameInWaitOrBound := by
  intro i cls f s hi c hc
  have hop : exec i s = .next (frameOp f s) ∧ fclass f = cls := by
    rcases hi with ⟨b, rfl, rfl, rfl⟩ | ⟨b, m, rfl, hm, rfl, rfl⟩
    · exact ⟨exec_bind b s, fclass_frameOf_bindMark b⟩
    · exact ⟨exec_data b m s, fclass_frameOf_of_ne b hm⟩
  obtain ⟨hexec, rfl⟩ := hop
  obtain rfl := eq_nextCursor_hop hc
  rw [hexec]
  refine ⟨fun hs hcrc => ?_, fun hs hcrc => ?_, fun hs hno => ?_, fun hs hcrc hid => ?_⟩
  · rw [frameOp_of_not_accepts (by simp [hs]) ((accepts_of_waiting hs).trans hcrc)]
  · rw [frameOp_of_waiting hs ((accepts_of_waiting hs).trans hcrc)]
  · have ha : accepts s.fsm s.txid f = false := by
      rwa [accepts_of_bound hs, ← Bool.not_eq_true, Bool.and_eq_true, idmatch_iff]
    rw [frameOp_of_not_accepts (by simp [hs]) ha]
  · have ha : accepts s.fsm s.txid f = true := by
      rw [accepts_of_bound hs, hcrc, (idmatch_iff f s.txid).2 hid]; rfl
    rw [frameOp_of_bound hs ha]

/-- Settles O5: the decoder evaluated at each word. -/
theorem sampleWordsDecode : Obligations.SampleWordsDecode :=
  ⟨rfl, rfl, rfl, rfl, rfl, rfl, rfl, rfl, rfl⟩

end Sys2Proof.Proofs
end

section
/-! PROOFS, family 40_host_ops_and_dispatch.md. INIT and a machine step as one equation per case (R130, R131), the
operation a selector decodes to (R95), the status and the sticks of a step case (R141, R143), and the transport commands
of a STEP counted part by part (R145). -/

namespace Sys2Proof.Machine

/-! ### INIT and the next command (R130, R131) -/

theorem initOp_eq (s : State) : initOp s = { s with
    fsm := .noBind, cur := 0, err := 0, last := s.env.now, status := 4, initialised := true, done := true
    trace := [.cfgrx s.probe[0]], env := { s.env with radioCh := s.probe[0], receiving := true } } := rfl

theorem takeLine_eq (l : HostLine) (rest : List HostLine) (s : State) : takeLine l rest s = { s with
    inputs := rest, env := { s.env with now := l.now, rxPending := l.pend, rxFifo := l.fifo } } := rfl

theorem step_of_no_command {s : State} (h : s.inputs = []) : step s = .next s := by
  rw [step, fetch, h]

theorem step_of_command {s : State} {l : HostLine} {rest : List HostLine} {i : Instr} (h : s.inputs = l :: rest)
    (ho : l.overlap = false) (hd : decode l.word = .ok i) : step s = exec i (takeLine l rest s) := by
  simp only [step, fetch, h, ho, hd, Bool.false_eq_true, if_false]

theorem step_of_undecodable {s : State} {l : HostLine} {rest : List HostLine} {e : DecodeReject}
    (h : s.inputs = l :: rest) (ho : l.overlap = false) (hd : decode l.word = .error e) :
    step s = .refused (.undecodable e) := by
  simp only [step, fetch, h, ho, hd, Bool.false_eq_true, if_false]

/-! ### The case a selector decodes to (R95, R137) -/

/-- Every selector decodes to an operation, and that operation is the step case STEP dispatches to. -/
theorem exists_decode_selWord (st : FsmState) (p : Bool) : ∃ i : Instr, decode (selWord st p) = .ok i ∧
    i.format = .sel ∧ ∀ s : State, exec i s = caseAlone (stepCase st p s.env.now s) :=
  match st, p with
  | .noBind, false => ⟨.nbHunt, rfl, rfl, fun _ => rfl⟩
  | .noBind, true => ⟨.nbRx, rfl, rfl, fun _ => rfl⟩
  | .waitFirstSynchro, false => ⟨.wsIdle, rfl, rfl, fun _ => rfl⟩
  | .waitFirstSynchro, true => ⟨.wsRx, rfl, rfl, fun _ => rfl⟩
  | .bound, false => ⟨.bdHunt, rfl, rfl, fun _ => rfl⟩
  | .bound, true => ⟨.bdRx, rfl, rfl, fun _ => rfl⟩
  | .signalLost, false => ⟨.slNop, rfl, rfl, fun _ => rfl⟩
  | .signalLost, true => ⟨.slNop, rfl, rfl, fun _ => rfl⟩

/-- STEP is the selected case on the polled state, with `STATUS` written and `done` raised. -/
theorem stepOp_eq (s : State) : stepOp s =
    ((stepCase s.fsm s.env.rxPending s.env.now (polled s)).2.setStatus
      (stepCase s.fsm s.env.rxPending s.env.now (polled s)).1).setDone true := by
  rw [stepOp, dispatch_eq]

/-! ### The status of a step case (R141) -/

theorem statusCode_toNat_le_three {v : Status} (h : v ≠ .unknown) : (statusCode v).toNat ≤ 3 := by
  cases v with
  | unknown => exact absurd rfl h
  | _ => decide

theorem statusCode_eq_zero_iff (v : Status) : statusCode v = 0 ↔ v = .boundNewValues := by
  cases v <;> decide

/-- Only INIT gives the status UNKNOWN. -/
theorem CaseOutcome.status_ne_unknown {s : State} {st : FsmState} {p : Bool} {r : Status × State}
    (h : CaseOutcome s st p r) : r.1 ≠ .unknown := by
  cases h with
  | bdAccepts => dsimp only; split <;> nofun
  | _ => nofun

/-! ### The sticks of a step case (R143) -/

/-- The accepted DATA frames of a pass, in the numbers of R93 and R214. -/
theorem mem_boundData_iff (s : State) (f : Frame) : f ∈ boundData s ↔
    f ∈ readable s ∧ crcchk f = true ∧ #v[f[7], f[8], f[9]] = s.txid ∧ f[14] ≠ 0xC0 := by
  rw [boundData, boundAccepted, List.mem_filter, List.mem_filter, Bool.and_eq_true, idmatch_iff, fclass_eq_data_iff,
    and_assoc, and_assoc]

theorem boundData_eq_nil_iff (s : State) : boundData s = [] ↔
    ¬ ∃ f ∈ readable s, crcchk f = true ∧ #v[f[7], f[8], f[9]] = s.txid ∧ f[14] ≠ 0xC0 := by
  simp only [List.eq_nil_iff_forall_not_mem, mem_boundData_iff, not_exists]

theorem boundData_eq_nil_of_boundAccepted {s : State} (h : boundAccepted s = []) : boundData s = [] := by
  rw [boundData, h, List.filter_nil]

/-- BOUND_NEW_VALUES comes from a pass of BD_RX that accepted a DATA frame, and the sticks are the last one's. -/
theorem CaseOutcome.sticks_of_newValues {s : State} {st : FsmState} {p : Bool} {r : Status × State}
    (h : CaseOutcome s st p r) (hn : r.1 = .boundNewValues) : st = .bound ∧ p = true ∧
      ∃ f, (boundData s).getLast? = some f ∧ r.2.sticks = sticksOf f := by
  cases h with
  | bdAccepts =>
    have hd : boundData s ≠ [] := fun he => by simp [he] at hn
    have hlast := List.getLast?_eq_some_getLast hd
    refine ⟨rfl, rfl, _, hlast, ?_⟩
    show ((boundData s).map sticksOf).getLastD s.sticks = _
    rw [List.getLastD_eq_getLast?, List.getLast?_map, hlast]
    rfl
  | _ => cases hn

theorem CaseOutcome.sticks_of_ne_newValues {s : State} {st : FsmState} {p : Bool} {r : Status × State}
    (h : CaseOutcome s st p r) (hn : r.1 ≠ .boundNewValues) : r.2.sticks = s.sticks := by
  cases h with
  | bdAccepts =>
    have hd : boundData s = [] := by
      by_contra he
      exact hn (if_neg he)
    show ((boundData s).map sticksOf).getLastD s.sticks = _
    rw [hd]
    rfl
  | _ => rfl

/-! ### The transport commands of a STEP, counted (R145) -/

/-- How often each command stands in `l`: T_POLL, T_CLRF, T_SETCH and T_FLUSHRX as given, T_CFGRX and T_FLUSHTX never,
and one T_READ for every T_EMPTY answered 0. -/
structure Tally (l : List TxEvent) (polls clears switches flushes : Nat) : Prop where
  poll : l.countP isPoll = polls
  clrf : l.count .clrf = clears
  setch : l.countP isSetch = switches
  flushrx : l.count .flushrx = flushes
  cfgrx : l.countP isCfgrx = 0
  flushtx : l.count .flushtx = 0
  read : l.countP isRead = l.countP isEmptyNo

theorem Tally.append {l m : List TxEvent} {a b c d a' b' c' d' : Nat} (h : Tally l a b c d) (h' : Tally m a' b' c' d') :
    Tally (l ++ m) (a + a') (b + b') (c + c') (d + d') := by
  obtain ⟨h1, h2, h3, h4, h5, h6, h7⟩ := h
  obtain ⟨k1, k2, k3, k4, k5, k6, k7⟩ := h'
  constructor <;> simp only [List.countP_append, List.count_append] <;> omega

theorem tally_nil : Tally [] 0 0 0 0 := ⟨rfl, rfl, rfl, rfl, rfl, rfl, rfl⟩

theorem tally_poll (a : Bool) : Tally [.poll a] 1 0 0 0 := ⟨rfl, rfl, rfl, rfl, rfl, rfl, rfl⟩

theorem tally_clrf : Tally [.clrf] 0 1 0 0 := ⟨rfl, rfl, rfl, rfl, rfl, rfl, rfl⟩

theorem tally_setch (ch : Byte) : Tally [.setch ch] 0 0 1 0 := ⟨rfl, rfl, rfl, rfl, rfl, rfl, rfl⟩

theorem tally_flushrx : Tally [.flushrx] 0 0 0 1 := ⟨rfl, rfl, rfl, rfl, rfl, rfl, rfl⟩

theorem tally_readEvents (f : Frame) : Tally (readEvents f) 0 0 0 0 := ⟨rfl, rfl, rfl, rfl, rfl, rfl, rfl⟩

theorem tally_closing (b : Bool) : Tally (closing b) 0 0 0 0 := by
  cases b <;> exact ⟨rfl, rfl, rfl, rfl, rfl, rfl, rfl⟩

theorem tally_reads (fs : List Frame) : Tally (fs.flatMap readEvents) 0 0 0 0 := by
  induction fs with
  | nil => exact tally_nil
  | cons f fs ih => exact (tally_readEvents f).append ih

/-- A pass that nothing stops early clears the flag once and switches no channel. -/
theorem tally_passTrace (s : State) : Tally (passTrace s) 0 1 0 0 :=
  tally_clrf.append ((tally_reads _).append (tally_closing _))

theorem tally_polled (s : State) : Tally (polled s).trace (if s.fsm = .signalLost then 0 else 1) 0 0 0 := by
  rw [polled]
  split
  · exact tally_nil
  · exact tally_poll _

section
variable {s : State} {a b : Nat}

theorem Tally.afterPass (h : Tally s.trace a b 0 0) : Tally (afterPass s).trace a (b + 1) 0 0 :=
  h.append (tally_passTrace s)

theorem Tally.adv (h : Tally s.trace a b 0 0) (t : AdvTable) : Tally (adv t s).trace a b 1 0 := by
  rw [adv_trace]
  exact h.append (tally_setch _)

theorem Tally.afterFirstBind (h : Tally s.trace a b 0 0) (pre : List Frame) (f : Frame) :
    Tally (afterFirstBind pre f s).trace a (b + 1) 0 0 :=
  h.append (tally_clrf.append ((tally_reads pre).append (tally_readEvents f)))

theorem Tally.capture (h : Tally s.trace a b 0 0) (now : Tick) : Tally (capture now s).trace a b 1 1 := by
  rw [capture_eq]
  exact h.append ((tally_setch _).append tally_flushrx)

/-- The selected case clears the flag exactly in a receive case, switches the channel at most once, and flushes exactly
with a capture. -/
theorem CaseOutcome.tally {st : FsmState} {p : Bool} {r : Status × State} (h : CaseOutcome s st p r) (hs : s.fsm = st)
    (ht : Tally s.trace a 0 0 0) : ∃ n ≤ 1, Tally r.2.trace a (if st ≠ .signalLost ∧ p = true then 1 else 0) n
      (if st = .noBind ∧ r.2.fsm = .waitFirstSynchro then 1 else 0) := by
  cases h with
  | nbStays => exact ⟨0, by decide, by simpa [hs] using ht⟩
  | nbAdvances => exact ⟨1, le_rfl, by simpa [hs] using ht.adv .probe⟩
  | nbDiscards =>
    have hf : (afterPass s).fsm = .noBind := hs
    exact ⟨0, by decide, by simpa [hf] using ht.afterPass⟩
  | nbCaptures pre f => exact ⟨1, le_rfl, (ht.afterFirstBind pre f).capture _⟩
  | wsStays | bdStays | slNothing => exact ⟨0, by decide, by simpa using ht⟩
  | wsDiscards | bdDiscards => exact ⟨0, by decide, ht.afterPass⟩
  | wsSynchronises => exact ⟨1, le_rfl, Tally.adv (s := (afterPass s).setLast _) ht.afterPass .hop⟩
  | bdNudges => exact ⟨1, le_rfl, Tally.adv (s := (s.setErr 1).setLast _) ht .hop⟩
  | bdHunts => exact ⟨1, le_rfl, ht.adv .hop⟩
  | bdAccepts =>
    exact ⟨1, le_rfl, Tally.adv (s := { afterPass s with err := 0, sticks := _ }) ht.afterPass .hop⟩

end

/-- A step case writes `LAST` with `now` or not at all. -/
theorem CaseOutcome.last {s : State} {st : FsmState} {p : Bool} {r : Status × State} (h : CaseOutcome s st p r) :
    r.2.last = s.last ∨ r.2.last = s.env.now := by
  cases h with
  | nbStays | nbDiscards | wsStays | wsDiscards | bdStays | bdDiscards | slNothing => exact .inl rfl
  | nbAdvances | nbCaptures | wsSynchronises | bdNudges | bdHunts | bdAccepts => exact .inr rfl

/-- A step case keeps `CUR`, resets it, or advances it once over PROBE or HOP. -/
theorem CaseOutcome.cur {s : State} {st : FsmState} {p : Bool} {r : Status × State} (h : CaseOutcome s st p r) :
    r.2.cur = s.cur ∨ r.2.cur = 0 ∨ r.2.cur.toNat = (s.cur.toNat + 1) % 8 ∨
      r.2.cur.toNat = (s.cur.toNat + 1) % 16 := by
  cases h with
  | nbStays | nbDiscards | wsStays | wsDiscards | bdStays | bdDiscards | slNothing => exact .inl rfl
  | nbCaptures => exact .inr (.inl rfl)
  | nbAdvances => exact .inr (.inr (.inl (nextCursor_probe_toNat s.cur)))
  | wsSynchronises | bdNudges | bdHunts | bdAccepts => exact .inr (.inr (.inr (nextCursor_hop_toNat s.cur)))

end Sys2Proof.Machine

namespace Sys2Proof.Proofs

open Sys2Proof.Machine

/-- Settles O34: INIT's writes, collected into one record update. -/
theorem initResult : Obligations.InitResult := fun s => congrArg Host.Outcome.next (initOp_eq s)

/-- Settles O37: what the next command fetches to, by whether one waits and whether its word decodes. -/
theorem stepRunsTheDecodedCommand : Obligations.StepRunsTheDecodedCommand :=
  ⟨fun s l rest _ h ho hd => takeLine_eq l rest s ▸ step_of_command h ho hd, fun _ h => step_of_no_command h,
    fun _ _ _ _ h ho hd => step_of_undecodable h ho hd⟩

/-- Settles O38: the selector decodes to the case STEP dispatches to, and a step case leaves `result` as it was. -/
theorem stepRunsTheSelectedCase : Obligations.StepRunsTheSelectedCase := by
  intro s hi
  obtain ⟨i, hdec, hfmt, hexec⟩ := exists_decode_selWord s.fsm s.env.rxPending
  obtain ⟨hres, -⟩ := (stepCase_outcome (polled s) s.fsm s.env.rxPending).frame
  refine ⟨i, _, _, hdec, hfmt, hexec (polled s), rfl, ?_⟩
  have hkeep : s.result = (stepCase s.fsm s.env.rxPending s.env.now (polled s)).2.result := hres.symm
  rw [exec_step_of_initialised hi, stepOp_eq, hkeep]
  rfl

/-- Settles O39: no step case returns UNKNOWN. -/
theorem stepAlwaysCompletes : Obligations.StepAlwaysCompletes := by
  intro s hi
  obtain ⟨-, r, hr, ht⟩ := execStep_outcome (exec_step_of_initialised hi)
  refine ⟨_, exec_step_of_initialised hi, ?_⟩
  rw [ht]
  exact ⟨statusCode_toNat_le_three hr.status_ne_unknown, rfl⟩

/-- Settles O41: each outcome of the selected case returns the status of its row. -/
theorem statusByCase : Obligations.StatusByCase := by
  intro s hi
  obtain ⟨-, r, hr, ht⟩ := execStep_outcome (exec_step_of_initialised hi)
  refine ⟨_, exec_step_of_initialised hi, ?_⟩
  rw [ht]
  generalize s.fsm = st at hr ⊢
  generalize s.env.rxPending = p at hr ⊢
  cases hr with
  | nbStays | nbAdvances | wsStays | wsDiscards | wsSynchronises | bdStays | bdNudges | bdHunts | slNothing => rfl
  | nbDiscards h =>
    exact (if_neg fun ⟨f, hm, hf⟩ => Bool.eq_false_iff.1 (h f hm) ((bindable_iff f).2 hf)).symm
  | nbCaptures pre f post h _ hf =>
    have hm : f ∈ readable s := h ▸ List.mem_append_right pre List.mem_cons_self
    exact (if_pos ⟨f, hm, (bindable_iff f).1 hf⟩).symm
  | bdDiscards h => exact (if_neg ((boundData_eq_nil_iff s).1 (boundData_eq_nil_of_boundAccepted h))).symm
  | bdAccepts =>
    by_cases hd : boundData s = []
    · exact (congrArg statusCode (if_pos hd)).trans (if_neg ((boundData_eq_nil_iff s).1 hd)).symm
    · have hp : ∃ f ∈ readable s, crcchk f = true ∧ #v[f[7], f[8], f[9]] = s.txid ∧ f[14] ≠ 0xC0 :=
        not_not.1 (mt (boundData_eq_nil_iff s).2 hd)
      exact (congrArg statusCode (if_neg hd)).trans (if_pos hp).symm

/-- Settles O42: STATUS 0 is the code of BOUND_NEW_VALUES, and a frame whose flags byte is 0xC0 is of class BIND. -/
theorem sticksAreFreshExactlyOnNewValues : Obligations.SticksAreFreshExactlyOnNewValues := by
  intro s t h
  obtain ⟨-, r, hr, rfl⟩ := execStep_outcome h
  refine ⟨fun h0 => ?_, fun h0 => ?_⟩
  · obtain ⟨hs, hp, f, hlast, hst⟩ := hr.sticks_of_newValues ((statusCode_eq_zero_iff r.1).1 h0)
    obtain ⟨-, -, -, hmark⟩ := (mem_boundData_iff s f).1 (List.mem_of_getLast? hlast)
    have hflags : r.2.sticks.flags ≠ 0xC0 := hst ▸ hmark
    exact ⟨hs, hp, f, hlast, hst, hflags⟩
  · exact hr.sticks_of_ne_newValues (mt (statusCode_eq_zero_iff r.1).2 h0)

/-- Settles O43: the poll, the pass and the channel commands of the selected case are counted each by itself. -/
theorem boundsPerStep : Obligations.BoundsPerStep := by
  intro s t h
  obtain ⟨-, r, hr, rfl⟩ := execStep_outcome h
  obtain ⟨n, hn, hpoll, hclrf, hsetch, hflushrx, hcfgrx, hflushtx, hread⟩ := hr.tally rfl (tally_polled s)
  exact ⟨hpoll, hclrf, hsetch.trans_le hn, hflushrx, hcfgrx, hflushtx, hread, hr.last, hr.cur, hr.fsm⟩

end Sys2Proof.Proofs
end

section
/-! PROOFS, family 41_step_receive.md. The receive cases, each as one equation per outcome of its pass (R160, R169,
R173), and the statements about them run by themselves. -/

namespace Sys2Proof.Machine

/-- A frame NO_BIND does not capture (R161), in the numbers of the statements. -/
theorem bindable_eq_false_iff (f : Frame) : bindable f = false ↔ ¬ (crcchk f = true ∧ f[14] = 0xC0) := by
  rw [← bindable_iff, Bool.not_eq_true]

/-! ### A case by itself (log entry 7) -/

theorem exec_nbRx (s : State) : exec .nbRx s = caseAlone (nbRx s.env.now s) := rfl

theorem exec_wsRx (s : State) : exec .wsRx s = caseAlone (wsRx s.env.now s) := rfl

theorem exec_bdRx (s : State) : exec .bdRx s = caseAlone (bdRx s.env.now s) := rfl

section
variable {s : State} {now : Tick}

/-! ### NB_RX (R160) -/

theorem nbRx_of_no_bindable (h : ∀ g ∈ readable s, bindable g = false) : nbRx now s = (.notBound, afterPass s) := by
  simp only [nbRx, drain_nb_none _ _ _ h]

theorem nbRx_of_first_bindable {pre post : List Frame} {f : Frame} (h : readable s = pre ++ f :: post)
    (hpre : ∀ g ∈ pre, bindable g = false) (hf : bindable f = true) :
    nbRx now s = (.bindInProgress, capture now (afterFirstBind pre f s)) := by
  simp only [nbRx, drain_nb_some _ _ _ _ _ _ h hpre hf, afterFirstBind]

/-- CAPTURE in the pass, as one record update: what was read before it stands in the trace, what was not is gone. -/
theorem capture_afterFirstBind (pre : List Frame) (f : Frame) : capture now (afterFirstBind pre f s) = { s with
    frame := f, txid := frameId f, hop := deriveId s.params.hopBase (frameId f), cur := 0, last := now
    fsm := .waitFirstSynchro
    env := { s.env with
      rxPending := false, rxFifo := [], radioCh := (deriveId s.params.hopBase (frameId f))[0] }
    trace := s.trace ++ (.clrf :: (pre.flatMap readEvents ++
      (readEvents f ++ [.setch (deriveId s.params.hopBase (frameId f))[0], .flushrx]))) } := by
  simp only [capture_eq, afterFirstBind, List.append_assoc, List.cons_append]

/-! ### WS_RX (R169) -/

theorem wsRx_of_no_valid (h : (readable s).any crcchk = false) : wsRx now s = (.bindInProgress, afterPass s) := by
  simp only [wsRx, drain_ws, h, wsFinish, Bool.or_self, Bool.false_eq_true, if_false]

theorem wsRx_of_valid (h : (readable s).any crcchk = true) :
    wsRx now s = (.bindInProgress, (adv .hop ((afterPass s).setLast now)).setFsm .bound) := by
  simp only [wsRx, drain_ws, h, wsFinish, Bool.or_true, if_true]

/-! ### BD_RX (R173): which outcome of the case it is, by acceptance -/

theorem bdRx_outcome (s : State) : CaseOutcome s .bound true (bdRx s.env.now s) := stepCase_outcome s .bound true

theorem bdRx_of_no_accepted (h : boundAccepted s = []) : bdRx s.env.now s = (.boundNoValues, afterPass s) := by
  have ho := bdRx_outcome s
  generalize bdRx s.env.now s = r at ho ⊢
  cases ho with
  | bdDiscards => rfl
  | bdAccepts h' => exact absurd h h'

theorem bdRx_of_accepted (h : boundAccepted s ≠ []) :
    bdRx s.env.now s = (if boundData s = [] then .boundNoValues else .boundNewValues,
      (adv .hop { afterPass s with
        err := 0, sticks := ((boundData s).map sticksOf).getLastD s.sticks }).setLast s.env.now) := by
  have ho := bdRx_outcome s
  generalize bdRx s.env.now s = r at ho ⊢
  cases ho with
  | bdDiscards h' => exact absurd h' h
  | bdAccepts => rfl

end

/-- The last accepted DATA frame gives the sticks, if there is one (R175). -/
theorem getLastD_map_sticksOf (l : List Frame) (d : Sticks) :
    (l.map sticksOf).getLastD d = l.getLast?.elim d sticksOf := by
  rw [List.getLastD_eq_getLast?, List.getLast?_map]
  cases l.getLast? <;> rfl

end Sys2Proof.Machine

namespace Sys2Proof.Proofs

open Sys2Proof.Machine

/-- Settles O29: the pass reaches the first acceptable bind frame, and there runs CAPTURE. -/
theorem firstBindFrameIsCaptured : Obligations.FirstBindFrameIsCaptured := by
  intro s pre f post h hr hpre hcrc hmark hh
  subst hh
  have hpre' : ∀ g ∈ pre, bindable g = false := fun g hg => (bindable_eq_false_iff g).2 (hpre g hg)
  have hf : bindable f = true := (bindable_iff f).2 ⟨hcrc, hmark⟩
  rw [exec_nbRx, nbRx_of_first_bindable hr hpre' hf, capture_afterFirstBind]
  rfl

/-- Settles O30: the drain only reads. -/
theorem noBindFrameNoCapture : Obligations.NoBindFrameNoCapture := by
  intro s hn
  rw [exec_nbRx, nbRx_of_no_bindable fun g hg => (bindable_eq_false_iff g).2 (hn g hg)]
  rfl

/-- Settles O31: the drain remembers only whether some payload passed the checksum; the advance follows it. -/
theorem anyValidFrameSynchronises : Obligations.AnyValidFrameSynchronises := by
  intro s c hc
  obtain rfl := eq_nextCursor_hop hc
  refine ⟨fun hn => ?_, fun hv => ?_⟩
  · have hany : (readable s).any crcchk = false := by simpa using hn
    rw [exec_wsRx, wsRx_of_no_valid hany]
    rfl
  · rw [exec_wsRx, wsRx_of_valid (List.any_eq_true.2 hv), ← List.append_assoc]
    rfl

/-- Settles O32: whether some frame was accepted decides the outcome, the accepted DATA frames the sticks and the
status. -/
theorem boundReceivePass : Obligations.BoundReceivePass := by
  intro s c hc
  obtain rfl := eq_nextCursor_hop hc
  refine ⟨fun hn => ?_, fun ha => ?_⟩
  · rw [exec_bdRx, bdRx_of_no_accepted hn]
    rfl
  · rw [exec_bdRx, bdRx_of_accepted ha, getLastD_map_sticksOf, ← List.append_assoc]
    cases (boundData s).getLast? <;> rfl

/-- Settles O28: either case returns the state it was given. -/
theorem idleCasesChangeNothing : Obligations.IdleCasesChangeNothing :=
  ⟨fun _ => rfl, fun _ => rfl⟩

end Sys2Proof.Proofs
end

section
/-! PROOFS, family 42_hop_derivation.md. The id's sum and the entries of DERIVE and PROBEGEN in the numbers of the rules
(R190 to R197), and the statements about the derivation engine. -/

namespace Sys2Proof.Machine

/-! ### AVOID16 (R190) -/

/-- AVOID16 as a byte: subtracting 3 is adding 253 modulo 256. -/
theorem avoid16_eq (v : Byte) : avoid16 v = if v.toNat % 16 ≠ 0 then v else BitVec.ofNat 8 (v.toNat + 253) := by
  rw [← BitVec.toNat_inj, avoid16_toNat]
  split
  · rfl
  · rw [BitVec.toNat_ofNat]

/-! ### The id's sum (R192 to R194) -/

theorem idSum_toNat (t0 t1 t2 : Byte) : (idSum t0 t1 t2).toNat = (t0.toNat + t1.toNat + t2.toNat) % 256 := by
  rw [idSum, BitVec.toNat_add, BitVec.toNat_add, Nat.mod_add_mod]

theorem idRow_congr {a b : Byte} (h : a.toNat % 32 = b.toNat % 32) : idRow a = idRow b := by
  apply Fin.ext
  rw [idRow_val, idRow_val]
  omega

theorem idInc_congr {a b : Byte} (h : a.toNat % 32 = b.toNat % 32) : idInc a = idInc b := by
  rw [← BitVec.toNat_inj, idInc_toNat, idInc_toNat]
  omega

/-! ### The entries of the tables (R195, R197) -/

/-- DERIVE's candidate for entry `i`, before AVOID16, is the base row's entry plus the increment, byte wrapped. -/
theorem deriveCandidate_toNat (hb : HopBase) (sum : Byte) (i : Fin 16) :
    (hb[idRow sum][i] + idInc sum).toNat =
      ((hb[sum.toNat % 4]'(Nat.mod_lt _ (by decide)))[i].toNat + sum.toNat / 4 % 8) % 256 := by
  simp only [BitVec.toNat_add, Fin.getElem_fin, idRow_val, idInc_toNat, Nat.reducePow]

/-- Entry `i` of PROBEGEN (R197). -/
theorem probegen_getElem (p : Params) (i : Fin 8) : (probegen p)[i] = avoid16 (p.probeBase + p.probeOff[i]) := by
  rw [Fin.getElem_fin, probegen, Vector.getElem_ofFn]

end Sys2Proof.Machine

namespace Sys2Proof.Proofs

open Sys2Proof.Machine

/-- Settles O7: every entry of either table is a result of AVOID16, which answers no multiple of 16. -/
theorem noDerivedChannelIsMultipleOfSixteen : Obligations.NoDerivedChannelIsMultipleOfSixteen :=
  ⟨avoid16_mod_ne_zero, nibblesNonzero_deriveHop, nibblesNonzero_probegen⟩

/-- Settles O8: the result is the hop table, and the candidate for an entry is the stated number. -/
theorem deriveResult : Obligations.DeriveResult := by
  intro t0 t1 t2 s
  refine ⟨deriveHop s.params.hopBase t0 t1 t2, rfl, fun i sum cand hsum hcand => ?_⟩
  rw [← idSum_toNat] at hsum
  subst hsum hcand
  rw [Fin.getElem_fin, deriveHop_getElem, avoid16_toNat, ← Fin.getElem_fin, deriveCandidate_toNat]

/-- Settles O9: the row is bits 1:0 of the sum and the increment is bits 4:2. -/
theorem deriveDependsOnFiveSumBits : Obligations.DeriveDependsOnFiveSumBits := by
  intro hb t0 t1 t2 u0 u1 u2 h
  have hsum : (idSum t0 t1 t2).toNat % 32 = (idSum u0 u1 u2).toNat % 32 := by
    rw [idSum_toNat, idSum_toNat]
    omega
  refine Vector.ext fun i hi => ?_
  simp only [deriveHop_getElem, idRow_congr hsum, idInc_congr hsum]

/-- Settles O11: the result is the constant `PROBE`, and the candidate for an entry is the stated number. -/
theorem probegenResult : Obligations.ProbegenResult := by
  intro s
  refine ⟨s.probe, rfl, rfl, fun i cand hcand => ?_⟩
  subst hcand
  rw [State.probe_eq, probegen_getElem, avoid16_toNat, BitVec.toNat_add]

/-- Settles O6: the operation writes AVOID16 of the byte into `result`. -/
theorem avoidSixteenResult : Obligations.AvoidSixteenResult := by
  intro v s
  rw [← avoid16_eq]
  rfl

end Sys2Proof.Proofs
end

section
/-! PROOFS, family 43_frame_validation.md. The checksum as the sum of bytes 0 to 14 and what replacing a byte does to
its test (R210, R211), the identity test and the class as plain comparisons (R212, R214), the value that each decode
holds in its register (R216, R218), and the statements about frame validation. -/

namespace Sys2Proof.Machine

/-! ### The checksum (R210, R211) -/

/-- The chain of eight-bit additions drops carries only, so it is the sum modulo 256. -/
theorem checksum_toNat (f : Frame) :
    (checksum f).toNat = ((f.toList.take 15).map BitVec.toNat).sum % 256 := by
  rcases f with ⟨⟨l⟩, hl⟩
  simp at hl
  match l, hl with
  | [a0, a1, a2, a3, a4, a5, a6, a7, a8, a9, a10, a11, a12, a13, a14, a15], _ =>
    simp [checksum, BitVec.toNat_add, Nat.add_assoc]

theorem crcchk_iff (f : Frame) : crcchk f = true ↔ checksum f = f[15] := beq_iff_eq

theorem crcchk_eq_decide (f : Frame) :
    crcchk f = decide (((f.toList.take 15).map BitVec.toNat).sum % 256 = f[15].toNat) := by
  rw [Bool.eq_iff_iff, decide_eq_true_iff, crcchk_iff, ← BitVec.toNat_inj, checksum_toNat]

theorem crcchk_congr {f g : Frame} (hsum : checksum f = checksum g) (hlast : f[15] = g[15]) : crcchk f = crcchk g := by
  rw [crcchk, crcchk, hsum, hlast]

/-- Byte 15 is compared, not added. -/
theorem checksum_set_last (f : Frame) (v : Byte) : checksum (f.set 15 v) = checksum f := by simp [checksum]

theorem crcchk_set_last_iff (f : Frame) (v : Byte) : crcchk (f.set 15 v) = true ↔ v = checksum f := by
  rw [crcchk_iff, checksum_set_last, Vector.getElem_set_self, eq_comm]

/-- A passing frame with a summed byte replaced passes only if that byte is as it was. -/
theorem crcchk_set_summed_iff {f : Frame} (hf : crcchk f = true) {i : Nat} (hi : i < 15) (v : Byte) :
    crcchk (f.set i v) = true ↔ v = f[i] := by
  rw [crcchk_iff] at hf ⊢
  rw [checksum_set f i hi, Vector.getElem_set_ne _ _ (by omega), ← hf, sub_add_eq_add_sub, sub_eq_iff_eq_add,
    add_right_inj]

theorem checksum_swap (f : Frame) {i j : Nat} (hi : i < 15) (hj : j < 15) :
    checksum ((f.set i f[j]).set j f[i]) = checksum f := by
  have hget : (f.set i f[j])[j] = f[j] := by
    rw [Vector.getElem_set]
    split <;> rfl
  rw [checksum_set _ j hj, hget, checksum_set f i hi, add_sub_cancel_right, sub_add_cancel]

/-! ### Identity and class (R212, R214) -/

theorem idmatch_eq_decide (f : Frame) (t : TxId) :
    idmatch f t = decide (f[7] = t[0] ∧ f[8] = t[1] ∧ f[9] = t[2]) := by
  simp only [idmatch, Bool.decide_and, Bool.and_assoc, beq_eq_decide]

theorem fclass_eq_ite (f : Frame) : fclass f = if f[14].toNat = 192 then .bind else .data :=
  if_congr BitVec.toNat_inj.symm rfl rfl

/-! ### The decodes and the registers that hold them (R216, R218) -/

theorem enc8_toInt {i : Int} (h1 : -128 ≤ i) (h2 : i < 128) : (enc8 i).toInt = i := by
  rw [enc8, BitVec.toInt_ofInt]
  exact Int.bmod_eq_of_le h1 h2

theorem enc9_toInt {i : Int} (h1 : -256 ≤ i) (h2 : i < 256) : (enc9 i).toInt = i := by
  rw [enc9, BitVec.toInt_ofInt]
  exact Int.bmod_eq_of_le h1 h2

theorem stkdec_eq (b : Byte) : stkdec b = if b.toNat < 128 then -(b.toNat : Int) else (b.toNat : Int) - 128 := rfl

theorem stkdec_bounds (b : Byte) : -127 ≤ stkdec b ∧ stkdec b ≤ 127 := by
  have hb := b.isLt
  rw [stkdec_eq]
  split <;> omega

theorem trimdec_eq (b : Byte) : trimdec b = (b.toNat : Int) - 64 := rfl

theorem trimdec_bounds (b : Byte) : -64 ≤ trimdec b ∧ trimdec b ≤ 191 := by
  have hb := b.isLt
  rw [trimdec_eq]
  omega

theorem enc8_stkdec_toInt (b : Byte) : (enc8 (stkdec b)).toInt = stkdec b := by
  obtain ⟨hlo, hhi⟩ := stkdec_bounds b
  exact enc8_toInt (by omega) (by omega)

theorem enc9_trimdec_toInt (b : Byte) : (enc9 (trimdec b)).toInt = trimdec b := by
  obtain ⟨hlo, hhi⟩ := trimdec_bounds b
  exact enc9_toInt (by omega) (by omega)

end Sys2Proof.Machine

namespace Sys2Proof.Proofs

open Sys2Proof.Machine

/-- Settles O13: the checksum is injective in each byte, indifferent to a swap, and the one byte 15 that passes. -/
theorem checksumDetectsOneByteNotSwaps : Obligations.ChecksumDetectsOneByteNotSwaps := by
  refine ⟨fun f i v hf hv => ?_, fun f g hlast hsum => ?_, fun f i j hi hj => ?_, fun f => ?_⟩
  · rw [← Bool.not_eq_true]
    by_cases hi : i.val < 15
    · exact fun h => hv ((crcchk_set_summed_iff hf hi v).1 h)
    · obtain rfl : i = 15 := by omega
      exact fun h => hv (((crcchk_set_last_iff f v).1 h).trans ((crcchk_iff f).1 hf))
  · refine crcchk_congr ?_ hlast
    rw [← BitVec.toNat_inj, checksum_toNat, checksum_toNat, hsum]
  · refine crcchk_congr (checksum_swap f hi hj) ?_
    rw [Vector.getElem_set_ne _ _ (by omega), Vector.getElem_set_ne _ _ (by omega)]
  · exact ⟨checksum f, (crcchk_set_last_iff f _).2 rfl, fun w => (crcchk_set_last_iff f w).1⟩

/-- Settles O12: the operation writes the checksum's test into `result`. -/
theorem checksumResult : Obligations.ChecksumResult := by
  intro f s
  rw [← crcchk_eq_decide]
  rfl

/-- Settles O17: the registers hold `sticksOf` of the frame, each decode in its range. -/
theorem stickRegistersFromOneFrame : Obligations.StickRegistersFromOneFrame := fun f _ =>
  ⟨sticksOf f, rfl, rfl, enc8_stkdec_toInt f[1], enc8_stkdec_toInt f[2], enc8_stkdec_toInt f[3],
    enc9_trimdec_toInt f[4], enc9_trimdec_toInt f[5], enc9_trimdec_toInt f[6], rfl⟩

/-- Settles O14: the operations write the comparison of the three bytes and the class of byte 14 into `result`. -/
theorem identityAndClassResults : Obligations.IdentityAndClassResults := by
  refine ⟨fun f t s => ?_, fun f s => ?_⟩
  · rw [← idmatch_eq_decide]
    rfl
  · rw [← fclass_eq_ite]
    rfl

/-- Settles O15: the result is STKDEC of the byte, which eight bits hold. -/
theorem stickDecodeResult : Obligations.StickDecodeResult := by
  intro b s
  refine ⟨enc8 (stkdec b), rfl, ?_⟩
  rw [enc8_stkdec_toInt]
  exact ⟨stkdec_eq b, stkdec_bounds b⟩

/-- Settles O16: the result is TRIMDEC of the byte, which nine bits hold. -/
theorem trimDecodeResult : Obligations.TrimDecodeResult := by
  intro b s
  refine ⟨enc9 (trimdec b), rfl, ?_⟩
  rw [enc9_trimdec_toInt]
  exact ⟨trimdec_eq b, trimdec_bounds b⟩

end Sys2Proof.Proofs
end

section
/-! PROOFS, family 44_channel_hunt.md. The two hunt cases as one equation per outcome (R246, R248), ADV in the numbers
of R242, and the clock: a shift of `LAST` and `NOW` together commutes with every step case (R240, R354). -/

namespace Sys2Proof.Machine

/-! ### Elapsed time (R240) and the probe timer (R246) -/

theorem last_add_elapsed (now last : Tick) : last + elapsed now last = now := add_sub_cancel last now

theorem elapsed_add_right (now last d : Tick) : elapsed (now + d) (last + d) = elapsed now last :=
  add_sub_add_right_eq_sub now last d

/-- `e > 128`, or `e >= 128` when the comparison is not strict (D9). -/
theorem probeFires_iff_ite {b : Bool} {x : Tick} :
    probeFires b x = true ↔ if b = true then x.toNat > 128 else x.toNat ≥ 128 := by
  rw [probeFires_iff]
  cases b with
  | true => simp
  | false => simp [le_iff_lt_or_eq, eq_comm]

theorem probeFires_eq_false_iff {b : Bool} {x : Tick} :
    probeFires b x = false ↔ if b = true then x.toNat ≤ 128 else x.toNat < 128 := by
  rw [← Bool.not_eq_true, probeFires_iff_ite]
  split <;> omega

theorem nudgeFires_eq_false_iff {a : BitVec 8} {x : Tick} : nudgeFires a x = false ↔ (a = 0 → x.toNat ≤ 10) := by
  rw [← Bool.not_eq_true, nudgeFires_iff, not_and, not_lt]

theorem huntFires_eq_false_iff {a : BitVec 8} {x : Tick} : huntFires a x = false ↔ (a ≠ 0 → x.toNat ≤ 140) := by
  rw [← Bool.not_eq_true, huntFires_iff, not_and, not_lt]

/-! ### ADV in the numbers of R242 -/

theorem nextCursor_probe_lt (c : Cursor) : (nextCursor .probe c).toNat < 8 := by
  rw [nextCursor_probe_toNat]
  exact Nat.mod_lt _ (by decide)

theorem channelAt_probe {c : Cursor} (h : c.toNat < 8) (s : State) : channelAt .probe c s = s.probe[c.toNat] := by
  simp only [channelAt, Nat.mod_eq_of_lt h]

/-- ADV over PROBE ends on the entry whose number is the new cursor. -/
theorem adv_probe_eq_getElem (s : State) : adv .probe s =
    { s with
      cur := nextCursor .probe s.cur
      env := { s.env with radioCh := s.probe[(nextCursor .probe s.cur).toNat]'(nextCursor_probe_lt s.cur) }
      trace := s.trace ++ [.setch (s.probe[(nextCursor .probe s.cur).toNat]'(nextCursor_probe_lt s.cur))] } := by
  rw [adv_probe_eq, channelAt_probe (nextCursor_probe_lt s.cur)]

theorem exec_adv (t : AdvTable) (s : State) : exec (.adv t) s = .next (adv t s) := rfl

/-! ### The hunt cases, one equation per outcome (R246, R248, R249) -/

theorem exec_nbHunt (s : State) : exec .nbHunt s = caseAlone (nbHunt s.env.now s) := rfl

theorem exec_bdHunt (s : State) : exec .bdHunt s = caseAlone (bdHunt s.env.now s) := rfl

section
variable {s : State} {now : Tick}

theorem nbHunt_of_fires (h : probeFires s.params.probeCmpStrict (elapsed now s.last) = true) :
    nbHunt now s = (.notBound, (adv .probe s).setLast now) := by
  rw [nbHunt, if_pos h]

theorem nbHunt_of_not_fires (h : probeFires s.params.probeCmpStrict (elapsed now s.last) = false) :
    nbHunt now s = (.notBound, s) := by
  rw [nbHunt, if_neg (Bool.eq_false_iff.1 h)]

/-- The first tier fires on `ERR = 0` only, so it leaves 1 there. -/
theorem bdHunt_of_nudge (h : nudgeFires s.err (elapsed now s.last) = true) :
    bdHunt now s = (.boundNoValues, adv .hop ((s.setErr 1).setLast now)) := by
  obtain ⟨he, -⟩ := nudgeFires_iff.1 h
  have herr : s.err + 1 = 1 := by rw [he]; rfl
  simp only [bdHunt, h, herr, if_true]

theorem bdHunt_of_hunt (hn : nudgeFires s.err (elapsed now s.last) = false)
    (h : huntFires s.err (elapsed now s.last) = true) :
    bdHunt now s = (.boundNoValues, (adv .hop s).setLast now) := by
  simp only [bdHunt, hn, h, Bool.false_eq_true, if_false, if_true]

theorem bdHunt_of_neither (hn : nudgeFires s.err (elapsed now s.last) = false)
    (h : huntFires s.err (elapsed now s.last) = false) : bdHunt now s = (.boundNoValues, s) := by
  simp only [bdHunt, hn, h, Bool.false_eq_true, if_false]

end

/-! ### Moving the clock (R354) -/

/-- The same state at a clock that runs `d` ticks ahead: `LAST` and `NOW` moved together. -/
def State.shiftClock (d : Tick) (s : State) : State :=
  { s with last := s.last + d, env := { s.env with now := s.env.now + d } }

section
variable (d now : Tick) (s : State)

theorem elapsed_shiftClock : elapsed (now + d) (s.shiftClock d).last = elapsed now s.last :=
  elapsed_add_right now s.last d

theorem setLast_shiftClock : (s.shiftClock d).setLast (now + d) = (s.setLast now).shiftClock d := rfl

theorem adv_shiftClock (t : AdvTable) : adv t (s.shiftClock d) = (adv t s).shiftClock d := by cases t <;> rfl

theorem capture_shiftClock : capture (now + d) (s.shiftClock d) = (capture now s).shiftClock d := by
  rw [capture_eq, capture_eq]
  rfl

theorem afterPass_shiftClock : afterPass (s.shiftClock d) = (afterPass s).shiftClock d := rfl

theorem polled_shiftClock : polled (s.shiftClock d) = (polled s).shiftClock d := rfl

theorem initOp_shiftClock : initOp (s.shiftClock d) = (initOp s).shiftClock d := rfl

/-! Each step case on the moved clock: the elapsed time it tests is the same, and it writes `LAST` with `now` only. -/

theorem nbHunt_shiftClock :
    nbHunt (now + d) (s.shiftClock d) = ((nbHunt now s).1, (nbHunt now s).2.shiftClock d) := by
  have hx := elapsed_shiftClock d now s
  cases h : probeFires s.params.probeCmpStrict (elapsed now s.last) with
  | true => rw [nbHunt_of_fires h, nbHunt_of_fires (by rwa [hx]), adv_shiftClock, setLast_shiftClock]
  | false => rw [nbHunt_of_not_fires h, nbHunt_of_not_fires (by rwa [hx])]

theorem nbRx_shiftClock : nbRx (now + d) (s.shiftClock d) = ((nbRx now s).1, (nbRx now s).2.shiftClock d) := by
  rcases first_bindable (readable s) with h | ⟨pre, f, post, h, hpre, hf⟩
  · rw [nbRx_of_no_bindable h, nbRx_of_no_bindable (s := s.shiftClock d) h, afterPass_shiftClock]
  · have hread : afterFirstBind pre f (s.shiftClock d) = (afterFirstBind pre f s).shiftClock d := rfl
    rw [nbRx_of_first_bindable h hpre hf, nbRx_of_first_bindable (s := s.shiftClock d) h hpre hf, hread,
      capture_shiftClock]

theorem wsRx_shiftClock : wsRx (now + d) (s.shiftClock d) = ((wsRx now s).1, (wsRx now s).2.shiftClock d) := by
  cases h : (readable s).any crcchk with
  | false => rw [wsRx_of_no_valid h, wsRx_of_no_valid (s := s.shiftClock d) h, afterPass_shiftClock]
  | true =>
    rw [wsRx_of_valid h, wsRx_of_valid (s := s.shiftClock d) h, afterPass_shiftClock, setLast_shiftClock,
      adv_shiftClock]
    rfl

theorem bdHunt_shiftClock :
    bdHunt (now + d) (s.shiftClock d) = ((bdHunt now s).1, (bdHunt now s).2.shiftClock d) := by
  have hx := elapsed_shiftClock d now s
  cases hn : nudgeFires s.err (elapsed now s.last) with
  | true =>
    rw [bdHunt_of_nudge hn, bdHunt_of_nudge (by rwa [hx])]
    rfl
  | false =>
    cases hh : huntFires s.err (elapsed now s.last) with
    | true =>
      rw [bdHunt_of_hunt hn hh, bdHunt_of_hunt (by rwa [hx]) (by rwa [hx]), adv_shiftClock, setLast_shiftClock]
    | false => rw [bdHunt_of_neither hn hh, bdHunt_of_neither (by rwa [hx]) (by rwa [hx])]

theorem bdRx_shiftClock : bdRx (s.env.now + d) (s.shiftClock d) =
    ((bdRx s.env.now s).1, (bdRx s.env.now s).2.shiftClock d) := by
  by_cases h : boundAccepted s = []
  · rw [bdRx_of_no_accepted h]
    exact bdRx_of_no_accepted (s := s.shiftClock d) h
  · rw [bdRx_of_accepted h]
    exact bdRx_of_accepted (s := s.shiftClock d) h

theorem stepCase_shiftClock (st : FsmState) (p : Bool) : stepCase st p (s.env.now + d) (s.shiftClock d) =
    ((stepCase st p s.env.now s).1, (stepCase st p s.env.now s).2.shiftClock d) :=
  match st, p with
  | .noBind, false => nbHunt_shiftClock d _ s
  | .noBind, true => nbRx_shiftClock d _ s
  | .waitFirstSynchro, false => rfl
  | .waitFirstSynchro, true => wsRx_shiftClock d _ s
  | .bound, false => bdHunt_shiftClock d _ s
  | .bound, true => bdRx_shiftClock d s
  | .signalLost, false => rfl
  | .signalLost, true => rfl

theorem stepOp_shiftClock : stepOp (s.shiftClock d) = (stepOp s).shiftClock d := by
  have hcase := stepCase_shiftClock d (polled s) s.fsm s.env.rxPending
  rw [stepOp_eq, stepOp_eq, polled_shiftClock]
  exact congrArg (fun r : Status × State => (r.2.setStatus r.1).setDone true) hcase

end

/-- The operations of format HCMD are INIT and STEP (R94). -/
theorem eq_init_or_step_of_format {i : Instr} (h : i.format = .hcmd) : i = .init ∨ i = .step := by
  cases i with
  | init => exact .inl rfl
  | step => exact .inr rfl
  | _ => cases h

end Sys2Proof.Machine

namespace Sys2Proof.Proofs

open Sys2Proof.Machine

/-- Settles O55: INIT copies `NOW` into `LAST`, and every step case commutes with the shift of the clock. -/
theorem clockWrapIsHarmless : Obligations.ClockWrapIsHarmless := by
  intro i d s t hi h
  rcases eq_init_or_step_of_format hi with rfl | rfl
  · cases h
    exact congrArg Host.Outcome.next (initOp_shiftClock d s)
  · obtain ⟨hinit, -⟩ := execStep_outcome h
    rw [exec_step_of_initialised hinit] at h
    cases h
    have hexec : exec .step (s.shiftClock d) = .next (stepOp (s.shiftClock d)) := exec_step_of_initialised hinit
    exact hexec.trans (congrArg Host.Outcome.next (stepOp_shiftClock d s))

/-- Settles O22: the stated number is the elapsed time, and the timer's test is the stated comparison. -/
theorem probeRotation : Obligations.ProbeRotation := by
  intro s e he hnow
  have hx : (elapsed s.env.now s.last).toNat = e := elapsed_toNat he hnow
  subst hx
  refine ⟨fun h => ?_, fun h => ?_⟩
  · rw [exec_nbHunt, nbHunt_of_not_fires (probeFires_eq_false_iff.2 h)]
    rfl
  · refine ⟨nextCursor .probe s.cur, nextCursor_probe_lt s.cur, nextCursor_probe_toNat s.cur, ?_⟩
    rw [exec_nbHunt, nbHunt_of_fires (probeFires_iff_ite.2 h), adv_probe_eq_getElem]
    rfl

/-- Settles O23: `ERR` decides which tier is tested, so that at most one fires. -/
theorem twoTierHunt : Obligations.TwoTierHunt := by
  intro s e c he hnow hc
  have hx : (elapsed s.env.now s.last).toNat = e := elapsed_toNat he hnow
  subst hx
  obtain rfl := eq_nextCursor_hop hc
  refine ⟨fun h0 hgt => ?_, fun h0 hgt => ?_, fun h => ?_⟩
  · rw [exec_bdHunt, bdHunt_of_nudge (nudgeFires_iff.2 ⟨h0, hgt⟩)]
    rfl
  · have hn : nudgeFires s.err (elapsed s.env.now s.last) = false :=
      nudgeFires_eq_false_iff.2 fun herr => absurd herr h0
    rw [exec_bdHunt, bdHunt_of_hunt hn (huntFires_iff.2 ⟨h0, hgt⟩)]
    rfl
  · have hstay : nudgeFires s.err (elapsed s.env.now s.last) = false ∧
        huntFires s.err (elapsed s.env.now s.last) = false := by
      rw [nudgeFires_eq_false_iff, huntFires_eq_false_iff]
      rcases h with ⟨h0, hle⟩ | ⟨h0, hle⟩
      · exact ⟨fun _ => hle, fun hne => absurd h0 hne⟩
      · exact ⟨fun herr => absurd herr h0, fun _ => hle⟩
    rw [exec_bdHunt, bdHunt_of_neither hstay.left hstay.right]
    rfl

/-- Settles O20: adding the difference to `LAST` gives `NOW`, with the carry dropped. -/
theorem elapsedWrapsSafely : Obligations.ElapsedWrapsSafely := by
  intro now last s
  refine ⟨elapsed now last, rfl, ?_⟩
  rw [← BitVec.toNat_add, last_add_elapsed]

/-- Settles O21: the next cursor is the stated number, and the switch goes to its entry. -/
theorem advanceIsOneStepRoundRobin : Obligations.AdvanceIsOneStepRoundRobin := by
  refine ⟨fun s => ?_, fun s => ?_⟩
  · refine ⟨nextCursor .probe s.cur, nextCursor_probe_lt s.cur, nextCursor_probe_toNat s.cur, ?_⟩
    rw [exec_adv, adv_probe_eq_getElem]
  · exact ⟨nextCursor .hop s.cur, nextCursor_hop_toNat s.cur, rfl⟩

end Sys2Proof.Proofs
end

section
/-! PROOFS, family 45_transport_commands.md. Each transport command by itself is the shared operation of its name (R270
to R277); what the operations that no earlier proof needed leave, as one record update; and the statements. -/

namespace Sys2Proof.Machine

/-! ### What POLL, EMPTY, FLUSHTX and a READ of nothing leave -/

theorem txPoll_snd_eq (s : State) : (txPoll s).2 = { s with trace := s.trace ++ [.poll s.env.rxPending] } := rfl

theorem txEmpty_snd_eq (s : State) : (txEmpty s).2 = { s with trace := s.trace ++ [.empty s.env.rxFifo.isEmpty] } := rfl

theorem txFlushtx_eq (s : State) : txFlushtx s =
    { s with env := { s.env with txFifo := [] }, trace := s.trace ++ [.flushtx] } := rfl

/-- T_READ on an empty FIFO (U13, log entry 12): the payload is the next free value. -/
theorem txRead_of_nil {s : State} (h : s.env.rxFifo = []) : txRead s =
    { s with
      frame := Config.emptyFifoPayload s.freeReads
      freeReads := s.freeReads + 1
      trace := s.trace ++ [.read (Config.emptyFifoPayload s.freeReads)] } := by
  rw [txRead, h]
  rfl

/-! ### A command by itself (log entry 7) -/

theorem exec_tCfgrx (ch : Byte) (s : State) : exec (.tCfgrx ch) s = .next (txCfgrx ch s) := rfl

theorem exec_tSetch (ch : Byte) (s : State) : exec (.tSetch ch) s = .next (txSetch ch s) := rfl

theorem exec_tPoll (s : State) : exec .tPoll s = .next (txPoll s).2 := rfl

theorem exec_tClrf (s : State) : exec .tClrf s = .next (txClrf s) := rfl

theorem exec_tEmpty (s : State) : exec .tEmpty s = .next (txEmpty s).2 := rfl

theorem exec_tRead (s : State) : exec .tRead s = .next (txRead s) := rfl

theorem exec_tFlushrx (s : State) : exec .tFlushrx s = .next (txFlushrx s) := rfl

theorem exec_tFlushtx (s : State) : exec .tFlushtx s = .next (txFlushtx s) := rfl

end Sys2Proof.Machine

namespace Sys2Proof.Proofs

open Sys2Proof.Machine

/-- Settles O27: the two clauses are the two cases of the FIFO; on an empty one the payload is the next free value. -/
theorem readTakesOldestPayload : Obligations.ReadTakesOldestPayload := by
  refine ⟨fun s f rest h => ?_, fun s h => ⟨Config.emptyFifoPayload s.freeReads, ?_⟩⟩
  · rw [exec_tRead, txRead_of_cons h]
  · rw [exec_tRead, txRead_of_nil h]

/-- Settles O25: T_EMPTY answers `isEmpty` of the FIFO, and either query adds only its event to the trace. -/
theorem queriesHaveNoSideEffect : Obligations.QueriesHaveNoSideEffect := by
  refine ⟨fun s => ?_, fun s => ⟨s.env.rxFifo.isEmpty, List.isEmpty_iff, ?_⟩⟩
  · rw [exec_tPoll, txPoll_snd_eq]
  · rw [exec_tEmpty, txEmpty_snd_eq]

/-- Settles O24: each command is its operation, which writes the radio's part of the environment and the trace. -/
theorem channelCommandsSetRadioChannel : Obligations.ChannelCommandsSetRadioChannel := by
  refine ⟨fun ch s => ?_, fun ch s => ?_⟩
  · rw [exec_tCfgrx, txCfgrx_eq]
  · rw [exec_tSetch, txSetch_eq]

/-- Settles O26: each command is its operation, which clears one field of the environment and writes the trace. -/
theorem clearAndFlushCommands : Obligations.ClearAndFlushCommands := by
  refine ⟨fun s => ?_, fun s => ?_, fun s => ?_⟩
  · rw [exec_tClrf, txClrf_eq]
  · rw [exec_tFlushrx, txFlushrx_eq]
  · rw [exec_tFlushtx, txFlushtx_eq]

end Sys2Proof.Proofs
end

section
/-! PROOFS, family 60_exceptions.md. The two uses without a meaning (R306), each as an equation of its refusal, and the
pass of BD_RX over its accepted payloads alone (R301). -/

namespace Sys2Proof.Machine

/-! ### Refused uses (R306) -/

theorem exec_step_of_not_initialised {s : State} (h : s.initialised = false) :
    exec .step s = .refused .stepBeforeInit := by
  show execStep s = _
  rw [execStep, h, if_neg Bool.false_ne_true]

theorem step_of_overlap {s : State} {l : HostLine} {rest : List HostLine} (h : s.inputs = l :: rest)
    (ho : l.overlap = true) : step s = .refused .overlappingCommand := by
  simp only [step, fetch, h, ho, if_true]

/-! ### The pass without its discarded payloads (R301) -/

/-- The same state with only those payloads in the FIFO that BD_RX accepts in its pass. -/
def State.acceptedOnly (s : State) : State := { s with env := { s.env with rxFifo := boundAccepted s } }

theorem length_readable_le {s : State} {k : Nat} (h : s.params.drainMax = some k) : (readable s).length ≤ k := by
  rw [readable, h]
  exact List.length_take_le ..

/-- There are no more accepted payloads than the pass may read, so DRAIN_MAX cuts none of them off. -/
theorem readable_acceptedOnly (s : State) : readable s.acceptedOnly = boundAccepted s := by
  cases h : s.params.drainMax with
  | none => simp only [readable, State.acceptedOnly, h]
  | some k =>
    have hlen : (boundAccepted s).length ≤ k := (List.length_filter_le ..).trans (length_readable_le h)
    simp only [readable, State.acceptedOnly, h, List.take_of_length_le hlen]

theorem boundAccepted_acceptedOnly (s : State) : boundAccepted s.acceptedOnly = boundAccepted s := by
  rw [boundAccepted, readable_acceptedOnly]
  exact List.filter_eq_self.2 fun f hf => (List.mem_filter.1 hf).2

theorem boundData_acceptedOnly (s : State) : boundData s.acceptedOnly = boundData s := by
  rw [boundData, boundAccepted_acceptedOnly, ← boundData]

end Sys2Proof.Machine

namespace Sys2Proof.Proofs

open Sys2Proof.Machine

/-- Settles O33: both passes accept the same frames, and beside `FRAME`, the FIFO and the trace the outcome of BD_RX is a
function of the accepted frames. -/
theorem discardedFramesLeaveNoMark : Obligations.DiscardedFramesLeaveNoMark := by
  intro s
  have hacc := boundAccepted_acceptedOnly s
  by_cases h : boundAccepted s = []
  · have ht := bdRx_of_no_accepted h
    have hu := bdRx_of_no_accepted (hacc.trans h)
    exact ⟨_, _, congrArg caseAlone ht, congrArg caseAlone hu, rfl⟩
  · have ht := bdRx_of_accepted h
    have hu := bdRx_of_accepted (s := s.acceptedOnly) (by rwa [hacc])
    rw [boundData_acceptedOnly] at hu
    exact ⟨_, _, congrArg caseAlone ht, congrArg caseAlone hu, rfl⟩

/-- Settles O36: STEP tests `initialised`, and fetching tests `overlap` before it decodes. -/
theorem undefinedUsesAreRefused : Obligations.UndefinedUsesAreRefused :=
  ⟨fun _ h => exec_step_of_not_initialised h, fun _ _ _ h ho => step_of_overlap h ho⟩

end Sys2Proof.Proofs
end


section
/-! PROOFS, family 70_reset_and_hazards.md. A run of STEP commands as one induction over the queue (log entry 6), what a
STEP that receives nothing acceptable leaves alone, and the three runs: without a valid payload in WAIT_FIRST_SYNCHRO
(R355), in BOUND (R356), and with a busy flag in NO_BIND (R358). -/

namespace Sys2Proof.Machine

/-! ### A run of STEP commands -/

/-- What holds before the run and is kept by the outcome of the selected case, with `STATUS` and `done` written, holds
when the queue is empty; and the run completes. -/
theorem exists_run_of_steps {L : HostLine → Prop} {P : State → Prop}
    (hstep : ∀ l, L l → l.word = ⟨.hcmd, 1⟩ ∧ l.overlap = false)
    (hkeep : ∀ l rest s r, L l → P s →
      CaseOutcome (polled (takeLine l rest s)) s.fsm l.pend r → P ((r.2.setStatus r.1).setDone true))
    {s : State} (hi : s.initialised = true) (hs : P s) (hl : ∀ l ∈ s.inputs, L l) :
    ∃ t : State, core.run s.inputs.length s = .next t ∧ t.inputs = [] ∧ P t := by
  generalize hin : s.inputs = lines at hl ⊢
  induction lines generalizing s with
  | nil => exact ⟨s, rfl, hin, hs⟩
  | cons l rest ih =>
    obtain ⟨hhead, hrest⟩ := List.forall_mem_cons.1 hl
    obtain ⟨hw, ho⟩ := hstep l hhead
    obtain ⟨r, hr, hnext, hin', hi'⟩ := step_of_step_word hin hw ho hi
    obtain ⟨t, hrun, ht⟩ := ih (s := (r.2.setStatus r.1).setDone true) hi' (hkeep l rest s r hhead hs hr) hin' hrest
    exact ⟨t, (core_run_succ rest.length s _ hnext).trans hrun, ht⟩

/-! ### A STEP that receives nothing acceptable -/

/-- `t` has the registers and the radio channel of `s`; `FRAME`, `STATUS` and the host port's part may differ. -/
structure SameRegisters (s t : State) : Prop where
  fsm : t.fsm = s.fsm
  cur : t.cur = s.cur
  err : t.err = s.err
  last : t.last = s.last
  txid : t.txid = s.txid
  hop : t.hop = s.hop
  sticks : t.sticks = s.sticks
  radioCh : t.env.radioCh = s.env.radioCh

namespace SameRegisters

theorem refl (s : State) : SameRegisters s s := ⟨rfl, rfl, rfl, rfl, rfl, rfl, rfl, rfl⟩

theorem trans {s t u : State} (h : SameRegisters s t) (h' : SameRegisters t u) : SameRegisters s u where
  fsm := h'.fsm.trans h.fsm
  cur := h'.cur.trans h.cur
  err := h'.err.trans h.err
  last := h'.last.trans h.last
  txid := h'.txid.trans h.txid
  hop := h'.hop.trans h.hop
  sticks := h'.sticks.trans h.sticks
  radioCh := h'.radioCh.trans h.radioCh

/-- A command taken and polled for. -/
theorem polled (l : HostLine) (rest : List HostLine) (s : State) : SameRegisters s (polled (takeLine l rest s)) :=
  ⟨rfl, rfl, rfl, rfl, rfl, rfl, rfl, rfl⟩

/-- A pass that discards whatever it reads (R301). -/
theorem afterPass (s : State) : SameRegisters s (afterPass s) := ⟨rfl, rfl, rfl, rfl, rfl, rfl, rfl, rfl⟩

/-- `STATUS` written and `done` raised. -/
theorem reported (v : Status) (s : State) : SameRegisters s ((s.setStatus v).setDone true) :=
  ⟨rfl, rfl, rfl, rfl, rfl, rfl, rfl, rfl⟩

/-- A STEP that receives nothing and whose case does nothing. -/
theorem idleStep (l : HostLine) (rest : List HostLine) (v : Status) (s : State) :
    SameRegisters s (((Machine.polled (takeLine l rest s)).setStatus v).setDone true) :=
  (polled l rest s).trans (reported v _)

/-- A STEP that discards whatever it receives. -/
theorem discardingStep (l : HostLine) (rest : List HostLine) (v : Status) (s : State) :
    SameRegisters s (((Machine.afterPass (Machine.polled (takeLine l rest s))).setStatus v).setDone true) :=
  ((polled l rest s).trans (afterPass _)).trans (reported v _)

end SameRegisters

/-- DRAIN_MAX only cuts payloads off. -/
theorem mem_rxFifo_of_mem_readable {s : State} {f : Frame} (h : f ∈ readable s) : f ∈ s.env.rxFifo := by
  unfold readable at h
  split at h
  · exact h
  · exact List.mem_of_mem_take h

/-- WAIT_FIRST_SYNCHRO has no timer: without a valid payload it idles or discards (R167, R169). -/
theorem CaseOutcome.waiting_of_no_valid {s : State} {p : Bool} {r : Status × State}
    (h : CaseOutcome s .waitFirstSynchro p r) (hno : p = true → ∀ f ∈ s.env.rxFifo, crcchk f = false) :
    r = (.bindInProgress, s) ∨ r = (.bindInProgress, afterPass s) := by
  cases h with
  | wsStays => exact .inl rfl
  | wsDiscards => exact .inr rfl
  | wsSynchronises hany =>
    obtain ⟨f, hf, hvalid⟩ := List.any_eq_true.1 hany
    cases hvalid.symm.trans (hno rfl f (mem_rxFifo_of_mem_readable hf))

/-- With the flag set NO_BIND drains and tests no timer; without a bind frame it discards (R137, R160). -/
theorem CaseOutcome.noBind_of_no_bindable {s : State} {r : Status × State} (h : CaseOutcome s .noBind true r)
    (hno : ∀ f ∈ s.env.rxFifo, bindable f = false) : r = (.notBound, afterPass s) := by
  cases h with
  | nbDiscards => rfl
  | nbCaptures pre f post hread _ hf =>
    have hmem : f ∈ readable s := hread ▸ List.mem_append_right pre List.mem_cons_self
    cases hf.symm.trans (hno f (mem_rxFifo_of_mem_readable hmem))

theorem SameIdentity.refl (s : State) : SameIdentity s s := ⟨rfl, rfl⟩

theorem SameIdentity.trans {s t u : State} (h : SameIdentity s t) (h' : SameIdentity t u) : SameIdentity s u :=
  ⟨h'.left.trans h.left, h'.right.trans h.right⟩

/-- BOUND is left by no step case, and none of its cases is a capture (R22, R362). -/
theorem CaseOutcome.bound {s : State} {p : Bool} {r : Status × State} (h : CaseOutcome s .bound p r) :
    r.2.fsm = s.fsm ∧ SameIdentity s r.2 := by
  constructor
  · rcases h.fsm with hs | ⟨hst, -⟩ | ⟨hst, -⟩
    · exact hs
    all_goals cases hst
  · rcases h.identity with hid | ⟨-, hst, -⟩
    · exact hid
    · cases hst

/-! ### One STEP of each of the three runs -/

section
variable {l : HostLine} {rest : List HostLine} {s : State} {r : Status × State}
  (hr : CaseOutcome (polled (takeLine l rest s)) s.fsm l.pend r)
include hr

theorem sameRegisters_waiting_step (hs : s.fsm = .waitFirstSynchro)
    (hno : l.pend = true → ∀ f ∈ l.fifo, crcchk f = false) :
    SameRegisters s ((r.2.setStatus r.1).setDone true) ∧ ((r.2.setStatus r.1).setDone true).status = 3 := by
  rw [hs] at hr
  rcases hr.waiting_of_no_valid hno with rfl | rfl
  · exact ⟨.idleStep l rest _ s, rfl⟩
  · exact ⟨.discardingStep l rest _ s, rfl⟩

theorem sameIdentity_bound_step (hs : s.fsm = .bound) :
    ((r.2.setStatus r.1).setDone true).fsm = .bound ∧ SameIdentity s ((r.2.setStatus r.1).setDone true) := by
  rw [hs] at hr
  obtain ⟨hfsm, hid⟩ := hr.bound
  exact ⟨hfsm.trans hs, hid⟩

theorem sameRegisters_busy_step (hs : s.fsm = .noBind) (hpend : l.pend = true)
    (hno : ∀ f ∈ l.fifo, ¬ (crcchk f = true ∧ f[14] = 0xC0)) :
    SameRegisters s ((r.2.setStatus r.1).setDone true) := by
  rw [hs, hpend] at hr
  have hnone : ∀ f ∈ l.fifo, bindable f = false := fun f hf => Bool.eq_false_iff.2 (mt (bindable_iff f).1 (hno f hf))
  obtain rfl := hr.noBind_of_no_bindable hnone
  exact .discardingStep l rest _ s

end

end Sys2Proof.Machine

namespace Sys2Proof.Proofs

open Sys2Proof.Machine

/-- Settles O52: the registers and `STATUS = 3` are kept by each of the two outcomes that need no valid payload. -/
theorem waitingNeverTimesOut : Obligations.WaitingNeverTimesOut := by
  intro s hi hs hstatus hl
  obtain ⟨t, hrun, hin, hsame, ht⟩ := exists_run_of_steps (P := fun t => SameRegisters s t ∧ t.status = 3)
    (fun _ ⟨hw, ho, _⟩ => ⟨hw, ho⟩)
    (fun _ _ _ _ ⟨_, _, hno⟩ ⟨hsame, _⟩ hr =>
      (sameRegisters_waiting_step hr (hsame.fsm.trans hs) hno).imp_left hsame.trans)
    hi ⟨.refl s, hstatus⟩ hl
  exact ⟨t, hrun, hin, hsame.fsm.trans hs, ht, hsame.cur, hsame.err, hsame.last, hsame.txid, hsame.hop, hsame.sticks,
    hsame.radioCh⟩

/-- Settles O53: `STATE`, id and table are kept by every outcome of the cases of BOUND. -/
theorem boundIsForEver : Obligations.BoundIsForEver := by
  intro s hi hs hl
  obtain ⟨t, hrun, hin, ht, htxid, hhop⟩ := exists_run_of_steps (P := fun t => t.fsm = .bound ∧ SameIdentity s t)
    (fun _ h => h)
    (fun _ _ _ _ _ ⟨ht, hid⟩ hr => (sameIdentity_bound_step hr ht).imp_right hid.trans)
    hi ⟨hs, .refl s⟩ hl
  exact ⟨t, hrun, hin, ht, htxid, hhop⟩

/-- Settles O54: the flag selects NB_RX each time, which here only discards. -/
theorem busyFlagStarvesTheRotation : Obligations.BusyFlagStarvesTheRotation := by
  intro s hi hs hl
  obtain ⟨t, hrun, hin, hsame⟩ := exists_run_of_steps (P := SameRegisters s)
    (fun _ ⟨hw, ho, _⟩ => ⟨hw, ho⟩)
    (fun _ _ _ _ ⟨_, _, hpend, hno⟩ hsame hr =>
      hsame.trans (sameRegisters_busy_step hr (hsame.fsm.trans hs) hpend hno))
    hi (.refl s) hl
  exact ⟨t, hrun, hin, hsame.fsm.trans hs, hsame.cur, hsame.radioCh, hsame.last, hsame.err, hsame.txid, hsame.hop⟩

end Sys2Proof.Proofs
end
